-- ==== Sys2Proof/Word.lean ====
section
/-!
DEFINITION. The words of the hub: the byte (20_memory.md R41), the 16-bit CRC and length (41_crc.md R105,
30_encoding.md R62), the 32-bit event word (30_encoding.md R71), and the value of one bit as a number.
-/

namespace Sys2Proof

/-- The unit of data of every FIFO, header, payload and trailer (20_memory.md R41). -/
abbrev Byte := BitVec 8

/-- A 16-bit value: the CRC register (41_crc.md R105), the fault bitmap (10_state.md R32), a payload length. -/
abbrev Word16 := BitVec 16

/-- One event written as a word, and the value of a result `Ok(v)` (30_encoding.md R71, R74). -/
abbrev Word32 := BitVec 32

/-- A truth value as the number the spec writes for it: 1 or 0. -/
def bitValue (b : Bool) : Word32 := if b then 1 else 0

end Sys2Proof
end

