-- ==== Sys2Proof/Syntax.lean ====
section
/-!
DEFINITION. The operands of the hub's events and the one inductive `Instr`: a constructor for each row of
opcode_table.json, that is for the 29 event words (30_encoding.md R73, R74) and for the 15 first-byte classes
(30_encoding.md R64 to R69).
-/

namespace Sys2Proof

/-- The four ports, numbered in this order 0 to 3 (00_scope.md R3, section 5). -/
inductive Port where
  | h0 | h1 | h2 | ext
  deriving DecidableEq, Repr

/-- The three host ports (00_scope.md R3). -/
inductive HostPort where
  | h0 | h1 | h2
  deriving DecidableEq, Repr

/-- A direction of a port: `tx` is from the hub toward the attached agent, `rx` from that agent into the hub
(00_scope.md section 5). -/
inductive Dir where
  | tx | rx
  deriving DecidableEq, Repr

/-- The four defined values of an event word's `dir` field: 0 none, 1 TX, 2 RX, 3 Both (30_encoding.md R71). -/
inductive DirField where
  | none | tx | rx | both
  deriving DecidableEq, Repr

/-- The three header shapes (30_encoding.md R61). -/
inductive Shape where
  | a | b | c
  deriving DecidableEq, Repr

/-- What the clock hardware reports at a tick: 0 nothing, 1 the high-speed source is granted, 2 the low-power
source is granted (44_powergate.md R170). -/
inductive Ack where
  | none | highSpeed | lowPower
  deriving DecidableEq, Repr

/-- Whose stream a type byte came on: External's, or that of the host the type belongs to (30_encoding.md R64, R65). -/
inductive FrameSource where
  | external | owner
  deriving DecidableEq, Repr

/-- The events of the hub. The first 29 constructors are the operations of 30_encoding.md R73; the others are the
first-byte classes of 30_encoding.md R64 and R65, each standing for the hub core's one step on such a byte at a frame
boundary (assumption log 7). -/
inductive Instr where
  /-- `OPEN` (44_powergate.md R160). -/
  | openHub
  /-- `CLOSE` (44_powergate.md R161). -/
  | closeHub
  /-- `SET_TRX h, d` (44_powergate.md R162). -/
  | setTrx (h : HostPort) (d : DirField)
  /-- `CLEAR_TRX h, d` (44_powergate.md R163). -/
  | clearTrx (h : HostPort) (d : DirField)
  /-- `IS_READY h` (44_powergate.md R164). -/
  | isReady (h : HostPort)
  /-- `CONFIG_LOOPBACK p, d, en` (40_port_fifo.md R95). -/
  | configLoopback (p : Port) (d : DirField) (en : Bool)
  /-- `SET_BYPASS en` (42_framer.md R130). -/
  | setBypass (en : Bool)
  /-- `CONFIG_BAUD p, r`, `r` the 3-bit rate index (40_port_fifo.md R89). -/
  | configBaud (p : Port) (r : BitVec 3)
  /-- `SET_DMA p, d, en` (40_port_fifo.md R90). -/
  | setDma (p : Port) (d : DirField) (en : Bool)
  /-- `CONFIG_TIMEOUT p, d, en, rs, per` (43_timeout.md R145). -/
  | configTimeout (p : Port) (d : DirField) (en rs : Bool) (per : BitVec 14)
  /-- `RESET_PORT p` (42_framer.md R133). -/
  | resetPort (p : Port)
  /-- `WRITE_BYTE p, b` (40_port_fifo.md R85). -/
  | writeByte (p : Port) (b : Byte)
  /-- `READ_BYTE p` (40_port_fifo.md R86). -/
  | readByte (p : Port)
  /-- `IS_TX_READY p` (40_port_fifo.md R87). -/
  | isTxReady (p : Port)
  /-- `IS_RX_READY p` (40_port_fifo.md R88). -/
  | isRxReady (p : Port)
  /-- `IRQ_MASK` (60_exceptions.md R224). -/
  | irqMask
  /-- `IRQ_UNMASK` (60_exceptions.md R225). -/
  | irqUnmask
  /-- `READ_FAULTS` (60_exceptions.md R226). -/
  | readFaults
  /-- `CLEAR_FAULTS m` (60_exceptions.md R227). -/
  | clearFaults (m : Word16)
  /-- `MON_ENABLE en` (46_monitor.md R200). -/
  | monEnable (en : Bool)
  /-- `MON_CONFIG m, rolling, mirror`, `m` the 2-bit mode (46_monitor.md R201). -/
  | monConfig (m : BitVec 2) (rolling mirror : Bool)
  /-- `MON_READ d, sel, i` (46_monitor.md R207). -/
  | monRead (d : DirField) (sel : Bool) (i : BitVec 4)
  /-- `LINE_IN p, b` (40_port_fifo.md R91). -/
  | lineIn (p : Port) (b : Byte)
  /-- `LINE_OUT p` (40_port_fifo.md R93). -/
  | lineOut (p : Port)
  /-- `LINE_XOFF p` (45_flowcontrol.md R187). -/
  | lineXoff (p : Port)
  /-- `LINE_XON p` (45_flowcontrol.md R188). -/
  | lineXon (p : Port)
  /-- `TICK a` (60_exceptions.md R230). -/
  | tick (a : Ack)
  /-- `RESTORE_FAULT p` (60_exceptions.md R222). -/
  | restoreFault (p : Port)
  /-- `CORE_RX s` (42_framer.md R115 to R131). -/
  | coreRx (s : Port)
  /-- First byte 0xFF from External (42_framer.md R116). -/
  | keepalive
  /-- First byte 0xF0 from External (42_framer.md R117). -/
  | escH0
  /-- First byte 0xF1 from External (42_framer.md R117). -/
  | escH1
  /-- First byte 0xF2 from External (42_framer.md R117). -/
  | escH2
  /-- First byte `b` that TYPE_MAP gives to `H0` with shape B (42_framer.md R115). -/
  | typeH0B (src : FrameSource) (b : Byte)
  /-- First byte `b` that TYPE_MAP gives to `H0` with shape A (42_framer.md R115). -/
  | typeH0A (src : FrameSource) (b : Byte)
  /-- First byte `b` that TYPE_MAP gives to `H0` with shape C (42_framer.md R115). -/
  | typeH0C (src : FrameSource) (b : Byte)
  /-- First byte `b` that TYPE_MAP gives to `H1` with shape B (42_framer.md R115). -/
  | typeH1B (src : FrameSource) (b : Byte)
  /-- First byte `b` that TYPE_MAP gives to `H1` with shape A (42_framer.md R115). -/
  | typeH1A (src : FrameSource) (b : Byte)
  /-- First byte `b` that TYPE_MAP gives to `H1` with shape C (42_framer.md R115). -/
  | typeH1C (src : FrameSource) (b : Byte)
  /-- First byte `b` that TYPE_MAP gives to `H2` with shape B (42_framer.md R115). -/
  | typeH2B (src : FrameSource) (b : Byte)
  /-- First byte `b` that TYPE_MAP gives to `H2` with shape A (42_framer.md R115). -/
  | typeH2A (src : FrameSource) (b : Byte)
  /-- First byte `b` that TYPE_MAP gives to `H2` with shape C (42_framer.md R115). -/
  | typeH2C (src : FrameSource) (b : Byte)
  /-- First byte `b` from External that is in no class (42_framer.md R118). -/
  | undefinedFromExt (b : Byte)
  /-- First byte `b` from host `h` that is no type of its own (42_framer.md R119). -/
  | undefinedFromHost (h : HostPort) (b : Byte)
  deriving DecidableEq, Repr

end Sys2Proof
end

