-- ==== Sys2Proof/Config.lean ====
section
/-!
DEFINITION. The parameters of the hub (00_scope.md section 4), their well-formedness (00_scope.md R4, 30_encoding.md
R66) and their defaults, with the records indexed by port, host and direction that hold per-port data. The parameters
are a value, so that a statement about every state is a statement about every parameter (assumption log 1).
-/

namespace Sys2Proof

/-- One value for each of the four ports. -/
structure PerPort (α : Type) where
  h0 : α
  h1 : α
  h2 : α
  ext : α
  deriving DecidableEq, Repr

/-- One value for each of the three hosts. -/
structure PerHost (α : Type) where
  h0 : α
  h1 : α
  h2 : α
  deriving DecidableEq, Repr

/-- One value for each of the two directions. -/
structure PerDir (α : Type) where
  tx : α
  rx : α
  deriving DecidableEq, Repr

/-- The value of port `p`. -/
def PerPort.get {α : Type} (v : PerPort α) (p : Port) : α :=
  match p with
  | .h0 => v.h0
  | .h1 => v.h1
  | .h2 => v.h2
  | .ext => v.ext

/-- `v` with the value of port `p` replaced. -/
def PerPort.set {α : Type} (v : PerPort α) (p : Port) (x : α) : PerPort α :=
  match p with
  | .h0 => { v with h0 := x }
  | .h1 => { v with h1 := x }
  | .h2 => { v with h2 := x }
  | .ext => { v with ext := x }

/-- The same value for every port. -/
def PerPort.all {α : Type} (x : α) : PerPort α := ⟨x, x, x, x⟩

/-- The value of host `h`. -/
def PerHost.get {α : Type} (v : PerHost α) (h : HostPort) : α :=
  match h with
  | .h0 => v.h0
  | .h1 => v.h1
  | .h2 => v.h2

/-- `v` with the value of host `h` replaced. -/
def PerHost.set {α : Type} (v : PerHost α) (h : HostPort) (x : α) : PerHost α :=
  match h with
  | .h0 => { v with h0 := x }
  | .h1 => { v with h1 := x }
  | .h2 => { v with h2 := x }

/-- The same value for every host. -/
def PerHost.all {α : Type} (x : α) : PerHost α := ⟨x, x, x⟩

/-- The value of direction `d`. -/
def PerDir.get {α : Type} (v : PerDir α) (d : Dir) : α :=
  match d with
  | .tx => v.tx
  | .rx => v.rx

/-- `v` with the value of direction `d` replaced. -/
def PerDir.set {α : Type} (v : PerDir α) (d : Dir) (x : α) : PerDir α :=
  match d with
  | .tx => { v with tx := x }
  | .rx => { v with rx := x }

/-- The same value for both directions. -/
def PerDir.all {α : Type} (x : α) : PerDir α := ⟨x, x⟩

/-- One host's row of TYPE_MAP: the contiguous range of first bytes that starts at `first`, and the shape of each byte
of the range in order (30_encoding.md R66 (a); assumption log 10). -/
structure TypeRange where
  first : Nat
  shapes : List Shape
  deriving DecidableEq, Repr

/-- TYPE_MAP: the three ranges (30_encoding.md R66). -/
abbrev TypeMap := PerHost TypeRange

/-- The first number after the range. -/
def TypeRange.stop (r : TypeRange) : Nat := r.first + r.shapes.length

/-- Byte number `n` lies in the range. -/
abbrev TypeRange.has (r : TypeRange) (n : Nat) : Prop := r.first ≤ n ∧ n < r.stop

/-- The two ranges have no byte in common. -/
abbrev TypeRange.apart (r q : TypeRange) : Prop := r.stop ≤ q.first ∨ q.stop ≤ r.first

/-- The constraints of 30_encoding.md R66: each range non-empty and within the byte values, the three disjoint (a); no
escape mapped (b); 0x02 mapped to `H0` with shape A (c); every shape the shape of some mapped byte (d). -/
abbrev TypeMap.Wf (m : TypeMap) : Prop :=
  (m.h0.shapes ≠ [] ∧ m.h1.shapes ≠ [] ∧ m.h2.shapes ≠ []) ∧
  (m.h0.stop ≤ 256 ∧ m.h1.stop ≤ 256 ∧ m.h2.stop ≤ 256) ∧
  (m.h0.apart m.h1 ∧ m.h0.apart m.h2 ∧ m.h1.apart m.h2) ∧
  (∀ n ∈ [0xF0, 0xF1, 0xF2, 0xFF], ¬ m.h0.has n ∧ ¬ m.h1.has n ∧ ¬ m.h2.has n) ∧
  (m.h0.has 2 ∧ m.h0.shapes[2 - m.h0.first]? = some .a) ∧
  (∀ sh ∈ [Shape.a, Shape.b, Shape.c], sh ∈ m.h0.shapes ++ m.h1.shapes ++ m.h2.shapes)

/-- The parameters the spec leaves OPEN, and the configuration inputs of 10_state.md R35 (00_scope.md section 4). -/
structure Params where
  /-- FIFO_DEPTH -/
  fifoDepth : Nat
  /-- XOFF_AVAIL_LOW -/
  xoffAvailLow : Nat
  /-- XON_AVAIL_HIGH -/
  xonAvailHigh : Nat
  /-- XOFF_POLL_MAX -/
  xoffPollMax : Nat
  /-- TYPE_MAP -/
  typeMap : TypeMap
  /-- EXT_RX_CRC -/
  extRxCrc : Bool
  /-- TIMEOUT_TICKS[p][d] -/
  timeoutTicks : PerPort (PerDir Nat)
  /-- CLK_RETRY_MAX -/
  clkRetryMax : Nat
  /-- SETTLE_TICKS -/
  settleTicks : Nat
  /-- CNT_WIDTH -/
  cntWidth : Nat
  /-- INIT_BAUD[p] -/
  initBaud : PerPort (Fin 4)
  /-- INIT_TIMEOUT_EN[p][d] -/
  initTimeoutEn : PerPort (PerDir Bool)
  /-- INIT_RESYNC[p][d] -/
  initResync : PerPort (PerDir Bool)
  deriving DecidableEq, Repr

/-- Every period of `v` is one that 10_state.md R29 admits: 1 to 16383 ticks. -/
abbrev PeriodsWf (v : PerPort (PerDir Nat)) : Prop :=
  (1 ≤ v.h0.tx ∧ v.h0.tx ≤ 16383) ∧ (1 ≤ v.h0.rx ∧ v.h0.rx ≤ 16383) ∧
  (1 ≤ v.h1.tx ∧ v.h1.tx ≤ 16383) ∧ (1 ≤ v.h1.rx ∧ v.h1.rx ≤ 16383) ∧
  (1 ≤ v.h2.tx ∧ v.h2.tx ≤ 16383) ∧ (1 ≤ v.h2.rx ∧ v.h2.rx ≤ 16383) ∧
  (1 ≤ v.ext.tx ∧ v.ext.tx ≤ 16383) ∧ (1 ≤ v.ext.rx ∧ v.ext.rx ≤ 16383)

/-- A model instance is well formed (00_scope.md R4). -/
abbrev Params.Wf (c : Params) : Prop :=
  8 ≤ c.fifoDepth ∧
  (1 ≤ c.xoffAvailLow ∧ c.xoffAvailLow < c.xonAvailHigh ∧ c.xonAvailHigh ≤ c.fifoDepth - 1) ∧
  PeriodsWf c.timeoutTicks ∧ 1 ≤ c.clkRetryMax ∧ 1 ≤ c.settleTicks ∧ 1 ≤ c.xoffPollMax ∧
  c.typeMap.Wf

/-- The default TYPE_MAP (30_encoding.md R67). -/
def defaultTypeMap : TypeMap :=
  { h0 := { first := 0x01, shapes := [.b, .a, .c] }
    h1 := { first := 0x41, shapes := [.b, .a, .c] }
    h2 := { first := 0x81, shapes := [.b, .a, .c] } }

/-- The default column of 00_scope.md section 4. DESIGN CHOICE of the spec, unsafe for the real hardware: every
statement is made for every `Params`, these values serve the reset state and the tests (assumption log 1). -/
def Params.default : Params :=
  { fifoDepth := 64
    xoffAvailLow := 16
    xonAvailHigh := 32
    xoffPollMax := 8
    typeMap := defaultTypeMap
    extRxCrc := true
    timeoutTicks := .all (.all 10)
    clkRetryMax := 5
    settleTicks := 2
    cntWidth := 32
    initBaud := .all 0
    initTimeoutEn := .all (.all true)
    initResync := .all (.all false) }

/-- The order of the two trailer bytes on the wire. -/
inductive WireOrder where
  | lowFirst | highFirst
  deriving DecidableEq, Repr

/-- CRC_WIRE_ORDER: low byte first (90_conflicts.md C2, 41_crc.md R108; assumption log 11). -/
def crcWireOrder : WireOrder := .lowFirst

/-- The two parameters of the software handler (60_exceptions.md R228): no part of the hub. -/
structure HandlerParams where
  /-- BENIGN_MASK -/
  benignMask : Word16
  /-- DEBOUNCE_TICKS -/
  debounceTicks : Nat
  deriving DecidableEq, Repr

/-- The defaults of 00_scope.md section 4. -/
def HandlerParams.default : HandlerParams := { benignMask := 0, debounceTicks := 1000 }

end Sys2Proof
end

