-- ==== Sys2Proof/WellFormed.lean ====
section
/-!
DEFINITION. Which terms of `Instr` are well formed: the operand table of 30_encoding.md R74 for the event words, and
the first-byte map of 30_encoding.md R64 to R67 for the first-byte classes. An ill-formed event word still has an
outcome (30_encoding.md R75, R76): the meanings give it.
-/

namespace Sys2Proof

/-- `dir ∈ {TX, RX, Both}`: the directions of SET_TRX, CLEAR_TRX, SET_DMA, CONFIG_TIMEOUT (30_encoding.md R74). -/
def DirField.isSome : DirField → Bool
  | .none => false
  | .tx => true
  | .rx => true
  | .both => true

/-- `dir ∈ {TX, RX}`: the directions of CONFIG_LOOPBACK and MON_READ (30_encoding.md R74). -/
def DirField.isSingle : DirField → Bool
  | .none => false
  | .tx => true
  | .rx => true
  | .both => false

/-- `b` is a type byte of host `h` with shape `sh`: TYPE_MAP(b) = (h, sh) (30_encoding.md R66). -/
abbrev TypeMap.maps (m : TypeMap) (b : Byte) (h : HostPort) (sh : Shape) : Prop :=
  (m.get h).has b.toNat ∧ (m.get h).shapes[b.toNat - (m.get h).first]? = some sh

/-- `b` is one of the four escapes (30_encoding.md R68). -/
abbrev isEscape (b : Byte) : Prop := b = 0xFF ∨ b = 0xF0 ∨ b = 0xF1 ∨ b = 0xF2

/-- `b` is a type byte of no host. -/
abbrev TypeMap.unmapped (m : TypeMap) (b : Byte) : Prop :=
  ¬ m.h0.has b.toNat ∧ ¬ m.h1.has b.toNat ∧ ¬ m.h2.has b.toNat

/-- The operands of `i` are in the ranges of 30_encoding.md R74; for a first-byte class, the byte is of that class
under the type map `m` (30_encoding.md R64, R65). -/
def Instr.wellFormed (m : TypeMap) : Instr → Bool
  | .openHub => true
  | .closeHub => true
  | .setTrx _ d => d.isSome
  | .clearTrx _ d => d.isSome
  | .isReady _ => true
  | .configLoopback _ d _ => d.isSingle
  | .setBypass _ => true
  | .configBaud _ r => decide (r.toNat ≤ 5)
  | .setDma _ d _ => d.isSome
  | .configTimeout _ d _ _ per => d.isSome && decide (1 ≤ per.toNat)
  | .resetPort _ => true
  | .writeByte _ _ => true
  | .readByte _ => true
  | .isTxReady _ => true
  | .isRxReady _ => true
  | .irqMask => true
  | .irqUnmask => true
  | .readFaults => true
  | .clearFaults _ => true
  | .monEnable _ => true
  | .monConfig md _ _ => decide (md.toNat ≤ 2)
  | .monRead d sel i => d.isSingle && (!sel || decide (i = 0))
  | .lineIn _ _ => true
  | .lineOut _ => true
  | .lineXoff _ => true
  | .lineXon _ => true
  | .tick _ => true
  | .restoreFault _ => true
  | .coreRx _ => true
  | .keepalive => true
  | .escH0 => true
  | .escH1 => true
  | .escH2 => true
  | .typeH0B _ b => decide (m.maps b .h0 .b)
  | .typeH0A _ b => decide (m.maps b .h0 .a)
  | .typeH0C _ b => decide (m.maps b .h0 .c)
  | .typeH1B _ b => decide (m.maps b .h1 .b)
  | .typeH1A _ b => decide (m.maps b .h1 .a)
  | .typeH1C _ b => decide (m.maps b .h1 .c)
  | .typeH2B _ b => decide (m.maps b .h2 .b)
  | .typeH2A _ b => decide (m.maps b .h2 .a)
  | .typeH2C _ b => decide (m.maps b .h2 .c)
  | .undefinedFromExt b => decide (¬ isEscape b ∧ m.unmapped b)
  | .undefinedFromHost h b => decide (¬ (m.get h).has b.toNat)

end Sys2Proof
end

