-- ==== Sys2Proof/Decode.lean ====
section
/-!
DEFINITION. Decoding, total: of a 32-bit event word (30_encoding.md R71 to R76) and of a first byte of a port's stream
(30_encoding.md R64, R65); the encoder of both; and the host's view of the opcode table, `decodeTableWord`.
-/

namespace Sys2Proof

/-! ## Errors and the outcome of decoding -/

/-- The error codes of a result `Err(code)` (30_encoding.md R75). -/
inductive ErrCode where
  /-- A port not allowed for the operation. -/
  | invalidPort
  /-- A direction not allowed for the operation. -/
  | invalidDirection
  /-- A reserved baud rate. -/
  | unsupportedRate
  /-- A TRX call while the hub is closed. -/
  | notOpen
  /-- A reserved op code. -/
  | invalidOp
  /-- An `arg` out of the operation's range. -/
  | invalidArg
  deriving DecidableEq, Repr

/-- The number of an error code (30_encoding.md R75). -/
def ErrCode.code : ErrCode → Nat
  | .invalidPort => 1
  | .invalidDirection => 2
  | .unsupportedRate => 3
  | .notOpen => 4
  | .invalidOp => 5
  | .invalidArg => 6

/-- What decoding a word gives (30_encoding.md R76). -/
inductive Decoded where
  /-- The word is this event. -/
  | instr (i : Instr)
  /-- The word is an ill-formed operation of the control host: it returns this error and changes nothing. -/
  | err (c : ErrCode)
  /-- The word is an ill-formed word of an agent that has no caller: it is no event of the machine. -/
  | notAnEvent
  deriving DecidableEq, Repr

/-- The event a decoding gives, if it gives one. -/
def Decoded.toOption : Decoded → Option Instr
  | .instr i => some i
  | .err _ => none
  | .notAnEvent => none

/-! ## The fields of an event word -/

/-- The port a `port` field names: 0 to 3 (30_encoding.md R71). -/
def portOfField (f : BitVec 4) : Option Port :=
  if f = 0 then some .h0
  else if f = 1 then some .h1
  else if f = 2 then some .h2
  else if f = 3 then some .ext
  else none

/-- The host port a `port` field names: 0 to 2 (30_encoding.md R74, "hosts"). -/
def hostOfField (f : BitVec 4) : Option HostPort :=
  if f = 0 then some .h0
  else if f = 1 then some .h1
  else if f = 2 then some .h2
  else none

/-- The value a `dir` field holds: 0 to 3 (30_encoding.md R71). -/
def dirOfField (f : BitVec 4) : Option DirField :=
  if f = 0 then some .none
  else if f = 1 then some .tx
  else if f = 2 then some .rx
  else if f = 3 then some .both
  else none

/-- The acknowledgement the `arg` of a TICK names (30_encoding.md R74, 60_exceptions.md R230). -/
def ackOfArg (arg : BitVec 16) : Option Ack :=
  if arg = 0 then some .none
  else if arg = 1 then some .highSpeed
  else if arg = 2 then some .lowPower
  else none

/-- `port` field of a port. -/
def portField : Port → BitVec 4
  | .h0 => 0
  | .h1 => 1
  | .h2 => 2
  | .ext => 3

/-- `port` field of a host port. -/
def hostField : HostPort → BitVec 4
  | .h0 => 0
  | .h1 => 1
  | .h2 => 2

/-- `dir` field of a direction. -/
def dirFieldBits : DirField → BitVec 4
  | .none => 0
  | .tx => 1
  | .rx => 2
  | .both => 3

/-- `arg` of an acknowledgement. -/
def ackArg : Ack → BitVec 16
  | .none => 0
  | .highSpeed => 1
  | .lowPower => 2

/-- A one-bit operand in a field of any width. -/
def flagBit (n : Nat) (b : Bool) : BitVec n := if b then 1 else 0

/-! ## Decoding an event word -/

/-- An operation without a port and without a direction: `port` must be 0xF and `dir` 0 (30_encoding.md R72, R76). -/
def noPortOp (port dir : BitVec 4) (k : Decoded) : Decoded :=
  if port ≠ 0xF then .err .invalidPort
  else if dir ≠ 0 then .err .invalidDirection
  else k

/-- An operation with a port and without a direction. -/
def portOp (port dir : BitVec 4) (k : Port → Decoded) : Decoded :=
  match portOfField port with
  | none => .err .invalidPort
  | some p => if dir ≠ 0 then .err .invalidDirection else k p

/-- An operation with a host port and without a direction. -/
def hostOp (port dir : BitVec 4) (k : HostPort → Decoded) : Decoded :=
  match hostOfField port with
  | none => .err .invalidPort
  | some h => if dir ≠ 0 then .err .invalidDirection else k h

/-- The last check of 30_encoding.md R76, for an operation that takes a direction. A `dir` that is one of the four
values but not allowed for the operation reaches the event, which returns `Err(InvalidDirection)` itself (assumption
log 6), unless an unused bit of `arg` is set, when the error is given here, before any `Err(InvalidArg)`. -/
def dirOp (dir : BitVec 4) (allowed : DirField → Bool) (clean : Bool) (k : DirField → Instr) : Decoded :=
  match dirOfField dir with
  | none => .err .invalidDirection
  | some d =>
    if clean then .instr (k d)
    else if allowed d then .err .invalidArg
    else .err .invalidDirection

/-- The check that the unused bits of `arg` are 0 (30_encoding.md R74). -/
def argOp (clean : Bool) (i : Instr) : Decoded :=
  if clean then .instr i else .err .invalidArg

/-- An agent without a caller gets no error: an ill-formed word of its is no event (30_encoding.md R76). -/
def agentOp : Decoded → Decoded
  | .instr i => .instr i
  | .err _ => .notAnEvent
  | .notAnEvent => .notAnEvent

/-- Decoding by the four fields, the op code first (30_encoding.md R73, R74, R76). -/
def decodeFields (op : BitVec 8) (port dir : BitVec 4) (arg : BitVec 16) : Decoded :=
  match op.toNat with
  | 0x01 => noPortOp port dir (argOp (arg == 0) .openHub)
  | 0x02 => noPortOp port dir (argOp (arg == 0) .closeHub)
  | 0x03 =>
    match hostOfField port with
    | none => .err .invalidPort
    | some h => dirOp dir DirField.isSome (arg == 0) (.setTrx h)
  | 0x04 =>
    match hostOfField port with
    | none => .err .invalidPort
    | some h => dirOp dir DirField.isSome (arg == 0) (.clearTrx h)
  | 0x05 => hostOp port dir fun h => argOp (arg == 0) (.isReady h)
  | 0x06 =>
    match portOfField port with
    | none => .err .invalidPort
    | some p => dirOp dir DirField.isSingle (arg.extractLsb' 1 15 == 0) fun d => .configLoopback p d (arg.getLsbD 0)
  | 0x07 => noPortOp port dir (argOp (arg.extractLsb' 1 15 == 0) (.setBypass (arg.getLsbD 0)))
  | 0x08 => portOp port dir fun p => argOp (arg.extractLsb' 3 13 == 0) (.configBaud p (arg.extractLsb' 0 3))
  | 0x09 =>
    match portOfField port with
    | none => .err .invalidPort
    | some p => dirOp dir DirField.isSome (arg.extractLsb' 1 15 == 0) fun d => .setDma p d (arg.getLsbD 0)
  | 0x0A =>
    match portOfField port with
    | none => .err .invalidPort
    | some p => dirOp dir DirField.isSome true fun d =>
        .configTimeout p d (arg.getLsbD 15) (arg.getLsbD 14) (arg.extractLsb' 0 14)
  | 0x0B => portOp port dir fun p => argOp (arg == 0) (.resetPort p)
  | 0x10 => portOp port dir fun p => argOp (arg.extractLsb' 8 8 == 0) (.writeByte p (arg.extractLsb' 0 8))
  | 0x11 => portOp port dir fun p => argOp (arg == 0) (.readByte p)
  | 0x12 => portOp port dir fun p => argOp (arg == 0) (.isTxReady p)
  | 0x13 => portOp port dir fun p => argOp (arg == 0) (.isRxReady p)
  | 0x20 => noPortOp port dir (argOp (arg == 0) .irqMask)
  | 0x21 => noPortOp port dir (argOp (arg == 0) .irqUnmask)
  | 0x22 => noPortOp port dir (argOp (arg == 0) .readFaults)
  | 0x23 => noPortOp port dir (.instr (.clearFaults arg))
  | 0x30 => noPortOp port dir (argOp (arg.extractLsb' 1 15 == 0) (.monEnable (arg.getLsbD 0)))
  | 0x31 => noPortOp port dir
      (argOp (arg.extractLsb' 4 12 == 0) (.monConfig (arg.extractLsb' 0 2) (arg.getLsbD 2) (arg.getLsbD 3)))
  | 0x32 =>
    if port ≠ 0xF then .err .invalidPort
    else dirOp dir DirField.isSingle (arg.extractLsb' 5 11 == 0) fun d =>
      .monRead d (arg.getLsbD 4) (arg.extractLsb' 0 4)
  | 0x80 => agentOp (portOp port dir fun p =>
      argOp (arg.extractLsb' 8 8 == 0) (.lineIn p (arg.extractLsb' 0 8)))
  | 0x81 => agentOp (portOp port dir fun p => argOp (arg == 0) (.lineOut p))
  | 0x82 => agentOp (portOp port dir fun p => argOp (arg == 0) (.lineXoff p))
  | 0x83 => agentOp (portOp port dir fun p => argOp (arg == 0) (.lineXon p))
  | 0x84 =>
    agentOp (noPortOp port dir
      (match ackOfArg arg with
       | none => .err .invalidArg
       | some a => .instr (.tick a)))
  | 0x85 => agentOp (portOp port dir fun p => argOp (arg == 0) (.restoreFault p))
  | 0xC0 => agentOp (portOp port dir fun p => argOp (arg == 0) (.coreRx p))
  | _ => .err .invalidOp

/-- The decoder of event words: `op` in bits 31:24, `port` in 23:20, `dir` in 19:16, `arg` in 15:0
(30_encoding.md R71). -/
def decodeEvent (w : Word32) : Decoded :=
  decodeFields (w.extractLsb' 24 8) (w.extractLsb' 20 4) (w.extractLsb' 16 4) (w.extractLsb' 0 16)

/-! ## Decoding a first byte -/

/-- The shape that a range gives to byte number `n`, if the byte is in the range. -/
def TypeRange.shapeOf (r : TypeRange) (n : Nat) : Option Shape :=
  if r.first ≤ n then r.shapes[n - r.first]? else none

/-- TYPE_MAP(b): the host and the shape of a type byte (30_encoding.md R66). -/
def TypeMap.lookup (m : TypeMap) (b : Byte) : Option (HostPort × Shape) :=
  match m.h0.shapeOf b.toNat with
  | some sh => some (.h0, sh)
  | none =>
    match m.h1.shapeOf b.toNat with
    | some sh => some (.h1, sh)
    | none =>
      match m.h2.shapeOf b.toNat with
      | some sh => some (.h2, sh)
      | none => none

/-- The class of a first byte (30_encoding.md R64, R65). -/
inductive FirstByteClass where
  | keepalive
  | escape (h : HostPort)
  | frameStart (h : HostPort) (sh : Shape)
  | undefined
  deriving DecidableEq, Repr

/-- The class of a first byte from External, in the order of test of 30_encoding.md R64. -/
def classifyExt (m : TypeMap) (b : Byte) : FirstByteClass :=
  if b = 0xFF then .keepalive
  else if b = 0xF0 then .escape .h0
  else if b = 0xF1 then .escape .h1
  else if b = 0xF2 then .escape .h2
  else
    match m.lookup b with
    | some (h, sh) => .frameStart h sh
    | none => .undefined

/-- The class of a first byte from host `h` (30_encoding.md R65). -/
def classifyHost (m : TypeMap) (h : HostPort) (b : Byte) : FirstByteClass :=
  match m.lookup b with
  | some (h', sh) => if h' = h then .frameStart h sh else .undefined
  | none => .undefined

/-- The class of a first byte of the stream of source port `s`. -/
def classify (m : TypeMap) (s : Port) (b : Byte) : FirstByteClass :=
  match s with
  | .h0 => classifyHost m .h0 b
  | .h1 => classifyHost m .h1 b
  | .h2 => classifyHost m .h2 b
  | .ext => classifyExt m b

/-- The frame-start class of a host and a shape as an event. -/
def typeInstr (h : HostPort) (sh : Shape) (src : FrameSource) (b : Byte) : Instr :=
  match h, sh with
  | .h0, .b => .typeH0B src b
  | .h0, .a => .typeH0A src b
  | .h0, .c => .typeH0C src b
  | .h1, .b => .typeH1B src b
  | .h1, .a => .typeH1A src b
  | .h1, .c => .typeH1C src b
  | .h2, .b => .typeH2B src b
  | .h2, .a => .typeH2A src b
  | .h2, .c => .typeH2C src b

/-- The escape of a host as an event (30_encoding.md R68). -/
def escapeInstr : HostPort → Instr
  | .h0 => .escH0
  | .h1 => .escH1
  | .h2 => .escH2

/-- The event that a first byte from External stands for. -/
def decodeFirstByteExt (m : TypeMap) (b : Byte) : Instr :=
  match classifyExt m b with
  | .keepalive => .keepalive
  | .escape h => escapeInstr h
  | .frameStart h sh => typeInstr h sh .external b
  | .undefined => .undefinedFromExt b

/-- The event that a first byte from host `h` stands for. -/
def decodeFirstByteHost (m : TypeMap) (h : HostPort) (b : Byte) : Instr :=
  match m.lookup b with
  | some (h', sh) => if h' = h then typeInstr h sh .owner b else .undefinedFromHost h b
  | none => .undefinedFromHost h b

/-- The decoder of first bytes: the event that byte `b` at a frame boundary of source port `s` stands for
(30_encoding.md R64, R65). -/
def decodeFirstByte (m : TypeMap) (s : Port) (b : Byte) : Instr :=
  match s with
  | .h0 => decodeFirstByteHost m .h0 b
  | .h1 => decodeFirstByteHost m .h1 b
  | .h2 => decodeFirstByteHost m .h2 b
  | .ext => decodeFirstByteExt m b

/-! ## Encoding -/

/-- What an event is written as: an event word, or a first byte on the stream of a source port. -/
inductive Code where
  | event (w : Word32)
  | firstByte (s : Port) (b : Byte)
  deriving DecidableEq, Repr

/-- The decoder of both kinds of code. -/
def decodeCode (m : TypeMap) : Code → Decoded
  | .event w => decodeEvent w
  | .firstByte s b => .instr (decodeFirstByte m s b)

/-- An event word from its four fields (30_encoding.md R71). -/
def eventWord (op : BitVec 8) (port dir : BitVec 4) (arg : BitVec 16) : Word32 :=
  op ++ port ++ dir ++ arg

/-- The source port of a type byte of host port `p`. -/
def FrameSource.port (src : FrameSource) (p : Port) : Port :=
  match src with
  | .external => .ext
  | .owner => p

/-- The port of a host. -/
def hostPort : HostPort → Port
  | .h0 => .h0
  | .h1 => .h1
  | .h2 => .h2

/-- The encoder, from the tables of 30_encoding.md R64 to R68, R73, R74. -/
def encode : Instr → Code
  | .openHub => .event (eventWord 0x01 0xF 0 0)
  | .closeHub => .event (eventWord 0x02 0xF 0 0)
  | .setTrx h d => .event (eventWord 0x03 (hostField h) (dirFieldBits d) 0)
  | .clearTrx h d => .event (eventWord 0x04 (hostField h) (dirFieldBits d) 0)
  | .isReady h => .event (eventWord 0x05 (hostField h) 0 0)
  | .configLoopback p d en => .event (eventWord 0x06 (portField p) (dirFieldBits d) (flagBit 16 en))
  | .setBypass en => .event (eventWord 0x07 0xF 0 (flagBit 16 en))
  | .configBaud p r => .event (eventWord 0x08 (portField p) 0 (0#13 ++ r))
  | .setDma p d en => .event (eventWord 0x09 (portField p) (dirFieldBits d) (flagBit 16 en))
  | .configTimeout p d en rs per =>
    .event (eventWord 0x0A (portField p) (dirFieldBits d) (flagBit 1 en ++ flagBit 1 rs ++ per))
  | .resetPort p => .event (eventWord 0x0B (portField p) 0 0)
  | .writeByte p b => .event (eventWord 0x10 (portField p) 0 (0#8 ++ b))
  | .readByte p => .event (eventWord 0x11 (portField p) 0 0)
  | .isTxReady p => .event (eventWord 0x12 (portField p) 0 0)
  | .isRxReady p => .event (eventWord 0x13 (portField p) 0 0)
  | .irqMask => .event (eventWord 0x20 0xF 0 0)
  | .irqUnmask => .event (eventWord 0x21 0xF 0 0)
  | .readFaults => .event (eventWord 0x22 0xF 0 0)
  | .clearFaults m => .event (eventWord 0x23 0xF 0 m)
  | .monEnable en => .event (eventWord 0x30 0xF 0 (flagBit 16 en))
  | .monConfig m rolling mirror =>
    .event (eventWord 0x31 0xF 0 (0#12 ++ flagBit 1 mirror ++ flagBit 1 rolling ++ m))
  | .monRead d sel i => .event (eventWord 0x32 0xF (dirFieldBits d) (0#11 ++ flagBit 1 sel ++ i))
  | .lineIn p b => .event (eventWord 0x80 (portField p) 0 (0#8 ++ b))
  | .lineOut p => .event (eventWord 0x81 (portField p) 0 0)
  | .lineXoff p => .event (eventWord 0x82 (portField p) 0 0)
  | .lineXon p => .event (eventWord 0x83 (portField p) 0 0)
  | .tick a => .event (eventWord 0x84 0xF 0 (ackArg a))
  | .restoreFault p => .event (eventWord 0x85 (portField p) 0 0)
  | .coreRx s => .event (eventWord 0xC0 (portField s) 0 0)
  | .keepalive => .firstByte .ext 0xFF
  | .escH0 => .firstByte .ext 0xF0
  | .escH1 => .firstByte .ext 0xF1
  | .escH2 => .firstByte .ext 0xF2
  | .typeH0B src b => .firstByte (src.port .h0) b
  | .typeH0A src b => .firstByte (src.port .h0) b
  | .typeH0C src b => .firstByte (src.port .h0) b
  | .typeH1B src b => .firstByte (src.port .h1) b
  | .typeH1A src b => .firstByte (src.port .h1) b
  | .typeH1C src b => .firstByte (src.port .h1) b
  | .typeH2B src b => .firstByte (src.port .h2) b
  | .typeH2A src b => .firstByte (src.port .h2) b
  | .typeH2C src b => .firstByte (src.port .h2) b
  | .undefinedFromExt b => .firstByte .ext b
  | .undefinedFromHost h b => .firstByte (hostPort h) b

/-! ## The opcode table -/

/-- The event the decoder reads from a row of opcode_table.json whose bits are `w`: a row of 32 bits is an event word,
a row of 8 bits a first byte from External under the default TYPE_MAP (assumption log 7). The hub lays a word out
nowhere: an event word is one 32-bit unit (30_encoding.md R72). -/
def decodeTableWord (nbits w : Nat) : Option Instr :=
  if nbits = 32 then (decodeEvent (BitVec.ofNat 32 w)).toOption
  else if nbits = 8 then some (decodeFirstByte defaultTypeMap .ext (BitVec.ofNat 8 w))
  else none

end Sys2Proof
end

