-- ==== Sys2Proof/Machine/State.lean ====
section
/-!
DEFINITION. The state of the hub (10_state.md R12 to R34) as plain data, the reasons a step can stop, and the state
after reset (70_reset_and_hazards.md R245).
-/

namespace Sys2Proof.Machine

/-- The phase of a receive parser: what the next byte of its stream is (10_state.md R22). -/
inductive Phase where
  | boundary | header | payload | crc
  deriving DecidableEq, Repr

/-- The receive parser of one source port (10_state.md R22). -/
structure Parser where
  phase : Phase
  /-- Header bytes collected and not yet forwarded. -/
  hdr : List Byte
  shape : Shape
  /-- Where the frame in progress goes. -/
  dest : Port
  /-- Payload bytes still to come. -/
  remain : Nat
  /-- CRC over the header and payload bytes so far. -/
  crc : Word16
  /-- Received CRC bytes collected (External's stream only). -/
  trailer : List Byte
  deriving DecidableEq, Repr

/-- The loopback wiring of a port's transmitter (10_state.md R21). -/
inductive Wiring where
  | off | selfRx | extRx
  deriving DecidableEq, Repr

/-- The timeout record of one port and direction (10_state.md R29). -/
structure TimeoutRec where
  timeoutEnable : Bool
  /-- 1 is strict mode, 0 is relaxed mode. -/
  resyncEnabled : Bool
  timeoutPeriod : Nat
  /-- Ticks since the last progress of the transfer being watched. -/
  timer : Nat
  timeoutCount : Nat
  packetCount : Nat
  deriving DecidableEq, Repr

/-- The state of one port (10_state.md R12 to R22, R29). A counter is a number below 2^CNT_WIDTH. -/
structure PortState where
  /-- Bytes waiting to go from the hub to the agent, head first (R12). -/
  txFifo : List Byte
  /-- Bytes received from the agent and not yet consumed, head first (R13). -/
  rxFifo : List Byte
  dmaTxEnabled : Bool
  dmaRxEnabled : Bool
  baudRateIndex : Fin 4
  /-- The hub has emitted XOFF toward the agent (R16). -/
  xoffAsserted : Bool
  /-- The agent has sent XOFF (R17). -/
  xoffDetected : Bool
  txByteCount : Nat
  rxByteCount : Nat
  crcErrCount : Nat
  loop : Wiring
  rxOverrun : Bool
  sleepReq : Bool
  rxp : Parser
  tmo : PerDir TimeoutRec
  deriving DecidableEq, Repr

/-- The states of the power and clock-gating FSM (10_state.md R25, 44_powergate.md R166). -/
inductive PgState where
  | idle | prepare | ready | ckon | ckoff | wait
  deriving DecidableEq, Repr

/-- The clock sources (10_state.md R27). -/
inductive ClkSource where
  | lowPower | highSpeed
  deriving DecidableEq, Repr

/-- The power-gate state and its bookkeeping (10_state.md R25 to R28). -/
structure PowerGate where
  pgState : PgState
  trxReq : PerHost (PerDir Bool)
  clkSrc : ClkSource
  clkReq : ClkSource
  clkRetry : Nat
  clkFail : Bool
  settleCnt : Nat
  /-- Also the arming of the interrupt path (R28). -/
  opened : Bool
  deriving DecidableEq, Repr

/-- The capture modes of the monitor (10_state.md R34). -/
inductive MonMode where
  | packetInfo | checkData | crcResult
  deriving DecidableEq, Repr

/-- One packet-info record (10_state.md R34). -/
structure PktInfo where
  origin : BitVec 3
  escape : Bool
  length : Word16
  deriving DecidableEq, Repr

/-- The monitor's buffers of one direction (10_state.md R34). -/
structure MonDir where
  pktInfo : Vector PktInfo 4
  pktInfoWr : Fin 4
  chk : Vector Byte 16
  chkWr : Fin 16
  crcRes : Vector Word16 8
  crcResWr : Fin 8
  /-- Bytes of the current event already captured, 0 to 16. -/
  monCnt : Nat
  /-- Payload length of the frame in progress. -/
  monLen : Word16
  deriving DecidableEq, Repr

/-- The diagnostic monitor (10_state.md R34). -/
structure Monitor where
  monEnabled : Bool
  monMode : MonMode
  /-- 0 is "top", 1 is "rolling". -/
  monRolling : Bool
  monMirror : Bool
  dirs : PerDir MonDir
  deriving DecidableEq, Repr

/-- What an event returned to whoever caused it (00_scope.md section 5, 30_encoding.md R74). The model's own field
(assumption log 3). -/
inductive Result where
  /-- The event has no answer. -/
  | none
  /-- `Ok`. -/
  | ok
  /-- `Ok(v)`. -/
  | okValue (v : Word32)
  /-- `Ok(none)`: a READ_BYTE of an empty FIFO. -/
  | okNone
  /-- `Err(code)`. -/
  | err (c : ErrCode)
  /-- The byte that LINE_OUT took out, and the wiring that took it: `off` is the attached agent. -/
  | left (b : Byte) (w : Wiring)
  /-- The condition of the event did not hold: the event did not happen (assumption log 4). -/
  | notEnabled
  deriving DecidableEq, Repr

/-- The state of the hub. `prm`, `schedule` and `result` are the model's own fields (assumption log 1, 2, 3); every
other field is the spec's. -/
structure State where
  /-- The parameters, carried unchanged by every step. -/
  prm : Params
  /-- The event words still to come, the next one first. -/
  schedule : List Word32
  /-- What the last event returned. -/
  result : Result
  ports : PerPort PortState
  /-- Which host's frame holds External's TX path (R23). -/
  extOwner : Option HostPort
  bypassMode : Bool
  pg : PowerGate
  xoffPollCount : Nat
  now : Nat
  faultBitmap : Word16
  faultTime : Nat
  irqMasked : Bool
  mon : Monitor
  deriving DecidableEq, Repr

/-- The reasons the machine can stop with a fault: none. "Global/fatal: none by design", no condition stops the hub
(60_exceptions.md R217). Safe: nothing is stopped that the hub would go on with. -/
inductive Fault where
  deriving DecidableEq, Repr

/-- The reasons the model has no step. -/
inductive Refusal where
  /-- Raised by an arm of `exec` without a meaning; no arm is. Safe: nothing is claimed of such an event. -/
  | notModelled (mnemonic : String)
  /-- Raised by `step` on an ill-formed word of an agent that has no caller (LINE_IN to CORE_RX), which is "simply not
  an event of the machine" (30_encoding.md R76). Safe: the hub has no such event. -/
  | notAnEvent (w : Word32)
  deriving DecidableEq, Repr

/-! ## Reset -/

/-- A parser at a frame boundary whose unread destination is `d` (10_state.md R22). -/
def Parser.initial (d : Port) : Parser :=
  { phase := .boundary, hdr := [], shape := .a, dest := d, remain := 0, crc := 0xFFFF, trailer := [] }

/-- A timeout record after reset (10_state.md R29). -/
def TimeoutRec.initial (enable resync : Bool) (period : Nat) : TimeoutRec :=
  { timeoutEnable := enable, resyncEnabled := resync, timeoutPeriod := period
    timer := 0, timeoutCount := 0, packetCount := 0 }

/-- The unread `dest` of the parser of port `p` after reset (10_state.md R22). -/
def resetDest : Port → Port
  | .h0 => .ext
  | .h1 => .ext
  | .h2 => .ext
  | .ext => .h0

/-- Port `p` after reset with parameters `c` (70_reset_and_hazards.md R245). -/
def PortState.initial (c : Params) (p : Port) : PortState :=
  { txFifo := [], rxFifo := [], dmaTxEnabled := false, dmaRxEnabled := false
    baudRateIndex := c.initBaud.get p
    xoffAsserted := false, xoffDetected := false
    txByteCount := 0, rxByteCount := 0, crcErrCount := 0
    loop := .off, rxOverrun := false, sleepReq := false
    rxp := .initial (resetDest p)
    tmo :=
      { tx := .initial (c.initTimeoutEn.get p).tx (c.initResync.get p).tx (c.timeoutTicks.get p).tx
        rx := .initial (c.initTimeoutEn.get p).rx (c.initResync.get p).rx (c.timeoutTicks.get p).rx } }

/-- The power gate after reset (70_reset_and_hazards.md R245). -/
def PowerGate.initial : PowerGate :=
  { pgState := .idle, trxReq := .all (.all false), clkSrc := .lowPower, clkReq := .lowPower
    clkRetry := 0, clkFail := false, settleCnt := 0, opened := false }

/-- Empty monitor buffers (46_monitor.md R208). -/
def MonDir.cleared : MonDir :=
  { pktInfo := Vector.replicate 4 { origin := 0, escape := false, length := 0 }, pktInfoWr := 0
    chk := Vector.replicate 16 0, chkWr := 0
    crcRes := Vector.replicate 8 0, crcResWr := 0
    monCnt := 0, monLen := 0 }

/-- The monitor after reset (70_reset_and_hazards.md R245). -/
def Monitor.initial : Monitor :=
  { monEnabled := false, monMode := .packetInfo, monRolling := false, monMirror := false
    dirs := .all .cleared }

/-- The reset event "hub init" with parameters `c` (70_reset_and_hazards.md R245). -/
def State.init (c : Params) : State :=
  { prm := c, schedule := [], result := .none
    ports := ⟨.initial c .h0, .initial c .h1, .initial c .h2, .initial c .ext⟩
    extOwner := none, bypassMode := false, pg := .initial
    xoffPollCount := 0, now := 0, faultBitmap := 0, faultTime := 0, irqMasked := false
    mon := .initial }

/-- The machine right after reset, with the default parameters of 00_scope.md section 4 (assumption log 1). -/
def State.reset : State := State.init Params.default

end Sys2Proof.Machine
end

