-- ==== Sys2Proof/Machine/Operands.lean ====
section
/-!
DEFINITION. The operand forms of the hub's events: port numbers, direction sets, rate, mode and index operands, header
lengths and the length field, and the number of a fault bit.
-/

namespace Sys2Proof.Machine

/-- The number of a port (00_scope.md section 5). -/
def portNum : Port → Nat
  | .h0 => 0
  | .h1 => 1
  | .h2 => 2
  | .ext => 3

/-- The host a port is, if it is one. -/
def asHost : Port → Option HostPort
  | .h0 => some .h0
  | .h1 => some .h1
  | .h2 => some .h2
  | .ext => none

/-- The direction field `f` takes in direction `d`: a `d in {TX, Both}` or `d in {RX, Both}` of the rules. -/
def covers (f : DirField) (d : Dir) : Bool :=
  match f, d with
  | .none, _ => false
  | .tx, .tx => true
  | .tx, .rx => false
  | .rx, .tx => false
  | .rx, .rx => true
  | .both, _ => true

/-- The direction of an operation that takes TX or RX (30_encoding.md R74). -/
def singleDir : DirField → Option Dir
  | .none => none
  | .tx => some .tx
  | .rx => some .rx
  | .both => none

/-- The wiring that the direction of CONFIG_LOOPBACK selects (40_port_fifo.md R95). -/
def wiringOf : Dir → Wiring
  | .tx => .selfRx
  | .rx => .extRx

/-- The capture mode a mode operand names; 3 names none (46_monitor.md R201). -/
def monModeOf (m : BitVec 2) : Option MonMode :=
  if m = 0 then some .packetInfo
  else if m = 1 then some .checkData
  else if m = 2 then some .crcResult
  else none

/-- The number of header bytes of a shape, HDRLEN (30_encoding.md R61). -/
def hdrLen : Shape → Nat
  | .a => 5
  | .b => 4
  | .c => 6

/-- Byte `i` of a list, 0 where there is none (a header has all the bytes that are read). -/
def byteAt (l : List Byte) (i : Nat) : Byte := l.getD i 0

/-- The payload length a complete header encodes (30_encoding.md R62). -/
def payloadLength (sh : Shape) (hdr : List Byte) : Nat :=
  match sh with
  | .a => (byteAt hdr 3).toNat
  | .b => (byteAt hdr 2).toNat
  | .c => (byteAt hdr 3).toNat + 256 * (byteAt hdr 4).toNat

/-- The 3-bit value with only the bit of a host set (46_monitor.md R202). External has no bit. -/
def oneHot : Port → BitVec 3
  | .h0 => 1
  | .h1 => 2
  | .h2 => 4
  | .ext => 0

/-- The four fault kinds (60_exceptions.md R215). -/
inductive FaultKind where
  | crcError | packetTypeError | timeoutError | restoreError
  deriving DecidableEq, Repr

/-- The number of a fault kind (60_exceptions.md R215). -/
def faultKindNum : FaultKind → Nat
  | .crcError => 0
  | .packetTypeError => 1
  | .timeoutError => 2
  | .restoreError => 3

/-- The code of a fault, its bit number in the bitmap: 4*k + n (60_exceptions.md R215). -/
def faultBit (k : FaultKind) (p : Port) : Nat := 4 * faultKindNum k + portNum p

/-- The four ports in the order of a tick's iterations (43_timeout.md R148, 45_flowcontrol.md R191). -/
def allPorts : List Port := [.h0, .h1, .h2, .ext]

end Sys2Proof.Machine
end

