-- ==== Sys2Proof/Machine/Ops.lean ====
section
/-!
DEFINITION. The named operations over the hub's state that every family uses: the accessors of one port, the FIFOs,
the counters, the timers, and raising a fault, which is all that taking an exception is on this hardware
(60_exceptions.md R219), with its acknowledgement (60_exceptions.md R227, R229).
-/

namespace Sys2Proof.Machine

/-! ## One port -/

/-- The record of port `p`. -/
def State.port (s : State) (p : Port) : PortState := s.ports.get p

/-- `s` with the record of port `p` replaced. -/
def State.setPort (s : State) (p : Port) (q : PortState) : State := { s with ports := s.ports.set p q }

/-- `txFifo[p]` (10_state.md R12). -/
abbrev State.txFifo (s : State) (p : Port) : List Byte := (s.port p).txFifo
/-- `rxFifo[p]` (10_state.md R13). -/
abbrev State.rxFifo (s : State) (p : Port) : List Byte := (s.port p).rxFifo
/-- `rxp[p]` (10_state.md R22). -/
abbrev State.rxp (s : State) (p : Port) : Parser := (s.port p).rxp
/-- The timeout record of (p, d) (10_state.md R29). -/
abbrev State.tmo (s : State) (p : Port) (d : Dir) : TimeoutRec := (s.port p).tmo.get d
/-- `timer[p][d]` (10_state.md R29). -/
abbrev State.timer (s : State) (p : Port) (d : Dir) : Nat := (s.tmo p d).timer
/-- `pgState` (10_state.md R25). -/
abbrev State.pgState (s : State) : PgState := s.pg.pgState
/-- `opened` (10_state.md R28). -/
abbrev State.opened (s : State) : Bool := s.pg.opened

/-- `txFifo[p] <- l`. -/
def State.setTxFifo (s : State) (p : Port) (l : List Byte) : State :=
  s.setPort p { s.port p with txFifo := l }

/-- `rxFifo[p] <- l`. -/
def State.setRxFifo (s : State) (p : Port) (l : List Byte) : State :=
  s.setPort p { s.port p with rxFifo := l }

/-- `rxp[p] <- r`. -/
def State.setParser (s : State) (p : Port) (r : Parser) : State :=
  s.setPort p { s.port p with rxp := r }

/-- The timeout record of (p, d) replaced. -/
def State.setTmo (s : State) (p : Port) (d : Dir) (t : TimeoutRec) : State :=
  s.setPort p { s.port p with tmo := (s.port p).tmo.set d t }

/-- `timer[p][d] <- n`. -/
def State.setTimer (s : State) (p : Port) (d : Dir) (n : Nat) : State :=
  s.setTmo p d { s.tmo p d with timer := n }

/-- The power gate replaced. -/
def State.setPg (s : State) (g : PowerGate) : State := { s with pg := g }

/-- The monitor replaced. -/
def State.setMon (s : State) (m : Monitor) : State := { s with mon := m }

/-- `extOwner <- o`. -/
def State.setOwner (s : State) (o : Option HostPort) : State := { s with extOwner := o }

/-- What the event returns (00_scope.md section 5). -/
def State.withResult (s : State) (r : Result) : State := { s with result := r }

/-! ## Outcomes of an event -/

/-- The event completes in state `s` and returns `r`. -/
def reply (s : State) (r : Result) : Host.Outcome State Fault Refusal := .next (s.withResult r)

/-- `fail(code)`: the event changes no state and its result is `Err(code)` (00_scope.md section 5). -/
def fail (s : State) (c : ErrCode) : Host.Outcome State Fault Refusal := reply s (.err c)

/-- An event with an enabling condition: it completes in the state its rule gives, or it does not happen
(assumption log 4). -/
def replyStep (s : State) (t : Option State) : Host.Outcome State Fault Refusal :=
  match t with
  | some t => reply t .none
  | none => reply s .notEnabled

/-! ## FIFOs and counters -/

/-- `avail(f)`: the free space of a FIFO (00_scope.md section 5). -/
def State.avail (s : State) (f : List Byte) : Nat := s.prm.fifoDepth - f.length

/-- `inc(c)`: a counter of CNT_WIDTH bits wraps (00_scope.md section 5, 10_state.md R19). -/
def State.inc (s : State) (n : Nat) : Nat := (n + 1) % 2 ^ s.prm.cntWidth

/-- `pushAll(txFifo[p], l)`; the rule that calls it has required the space. -/
def State.pushAllTx (s : State) (p : Port) (l : List Byte) : State :=
  s.setTxFifo p (s.txFifo p ++ l)

/-- `push(txFifo[p], b)`; the rule that calls it has required the space. -/
def State.pushTx (s : State) (p : Port) (b : Byte) : State := s.pushAllTx p [b]

/-- `inc(crcErrCount[p])`. -/
def State.incCrcErr (s : State) (p : Port) : State :=
  s.setPort p { s.port p with crcErrCount := s.inc (s.port p).crcErrCount }

/-- `inc(packetCount[p][d])`. -/
def State.incPacket (s : State) (p : Port) (d : Dir) : State :=
  s.setTmo p d { s.tmo p d with packetCount := s.inc (s.tmo p d).packetCount }

/-- `inc(timeoutCount[p][d])`. -/
def State.incTimeout (s : State) (p : Port) (d : Dir) : State :=
  s.setTmo p d { s.tmo p d with timeoutCount := s.inc (s.tmo p d).timeoutCount }

/-! ## Timers -/

/-- `progress(s, d)`: the transfer from source `p` moved forward, toward `d` once its header is written there
(43_timeout.md R146). -/
def progress (s : State) (p : Port) (d : Option Port) : State :=
  match d with
  | none => s.setTimer p .rx 0
  | some q => (s.setTimer p .rx 0).setTimer q .tx 0

/-! ## Raising a fault and acknowledging one -/

/-- `raise F(p)`: the bit of the fault is set and `faultTime` is `now`; nothing else happens and the event that raised
it goes on (60_exceptions.md R219). -/
def raiseFault (s : State) (k : FaultKind) (p : Port) : State :=
  { s with faultBitmap := s.faultBitmap ||| (1 <<< faultBit k p), faultTime := s.now }

/-- `faultBitmap <- faultBitmap & ~m`: the acknowledgement of the faults in `m` (60_exceptions.md R227, R229). -/
def ackFaults (s : State) (m : Word16) : State := { s with faultBitmap := s.faultBitmap &&& ~~~m }

/-- `irqMasked <- b` (60_exceptions.md R224, R225). -/
def State.setIrqMasked (s : State) (b : Bool) : State := { s with irqMasked := b }

/-! ## Resets of a parser and of a port -/

/-- The parser back at a frame boundary; `shape` and `dest` keep their unread values (42_framer.md R132). -/
def Parser.atBoundary (r : Parser) : Parser :=
  { r with phase := .boundary, hdr := [], trailer := [], remain := 0, crc := 0xFFFF }

/-- The first half of `parserReset`: the path is released where the parser's frame held one, and the TX timer of the
frame's destination stops (42_framer.md R132). -/
def releasePath (s : State) (p : Port) : State :=
  match asHost p with
  | some h => if s.extOwner = some h then (s.setOwner none).setTimer .ext .tx 0 else s
  | none =>
    if (s.rxp p).phase = .payload ∨ (s.rxp p).phase = .crc then s.setTimer (s.rxp p).dest .tx 0 else s

/-- `parserReset(p)` (42_framer.md R132). -/
def parserReset (s : State) (p : Port) : State :=
  ((releasePath s p).setParser p (s.rxp p).atBoundary).setTimer p .rx 0

/-- The FIFO, flow-control and sleep part of `portReset` (42_framer.md R133). -/
def clearPort (s : State) (p : Port) : State :=
  s.setPort p { s.port p with
    txFifo := [], rxFifo := [], xoffAsserted := false, xoffDetected := false, sleepReq := false }

/-- `portReset(p)` (42_framer.md R133). -/
def portReset (s : State) (p : Port) : State := parserReset (clearPort s p) p

end Sys2Proof.Machine
end

