-- ==== Sys2Proof/Machine/Flags.lean ====
section
/-!
DEFINITION. The hub's derived signals and flag computations: the activity of the hosts, the ready signals, the peer's
block, the running of the timers, the interrupt line, and the watermark rule of the hub's own XOFF, with the two
procedures that apply it, taking a byte from an RX FIFO and putting one into it.
-/

namespace Sys2Proof.Machine

/-- `active[h]` (10_state.md R26). -/
def PowerGate.active (g : PowerGate) (h : HostPort) : Bool := (g.trxReq.get h).tx || (g.trxReq.get h).rx

/-- `hubActive` (10_state.md R26). -/
def PowerGate.hubActive (g : PowerGate) : Bool := g.active .h0 || g.active .h1 || g.active .h2

/-- Bytes are processed: `pgState != IDLE` (44_powergate.md R166, R176). -/
def State.gateOpen (s : State) : Bool := decide (s.pgState ≠ .idle)

/-- `isTxReady(p)` (40_port_fifo.md R87). -/
def State.txReady (s : State) (p : Port) : Bool := s.gateOpen && decide (1 ≤ s.avail (s.txFifo p))

/-- `isRxReady(p)` (40_port_fifo.md R88). -/
def State.rxReady (s : State) (p : Port) : Bool := decide (1 ≤ (s.rxFifo p).length)

/-- The commitment signal of host `h` (44_powergate.md R164). -/
def State.hostReady (s : State) (h : HostPort) : Bool := decide (s.pgState = .ready) && s.pg.active h

/-- `wsendXoff[p]`: the peer's XOFF stops something that is waiting (10_state.md R18). -/
def State.wsendXoff (s : State) (p : Port) : Bool :=
  (s.port p).xoffDetected && decide (1 ≤ (s.txFifo p).length)

/-- `txFsmIdle[p]`: in this byte-level model a transmission is one atomic LINE_OUT, so between events every transmit
FSM is idle (40_port_fifo.md R94). -/
def State.txFsmIdle (_s : State) (_p : Port) : Bool := true

/-- `rxRunning(p)` (43_timeout.md R147). -/
def State.rxRunning (s : State) (p : Port) : Bool :=
  !s.bypassMode && decide ((s.rxp p).phase ≠ .boundary)

/-- `txRunning(p)` (43_timeout.md R147). -/
def State.txRunning (s : State) (p : Port) : Bool :=
  !s.bypassMode &&
    (match p with
     | .ext => s.extOwner.isSome
     | p => decide (((s.rxp .ext).phase = .payload ∨ (s.rxp .ext).phase = .crc) ∧ (s.rxp .ext).dest = p))

/-- Whether the timer of (p, d) runs (43_timeout.md R147). -/
def State.running (s : State) (p : Port) (d : Dir) : Bool :=
  match d with
  | .rx => s.rxRunning p
  | .tx => s.txRunning p

/-- `irqLine`: the level of the interrupt line to the control host (60_exceptions.md R223). -/
def State.irqLine (s : State) : Bool := s.opened && !s.irqMasked && decide (s.faultBitmap ≠ 0)

/-! ## The hub's own XOFF -/

/-- The new level of `xoffAsserted` from the old one and the free space: XOFF below the low threshold, XON at or above
the high one, unchanged in the band between (45_flowcontrol.md R185, R186, R189). -/
def xoffLevel (c : Params) (old : Bool) (a : Nat) : Bool :=
  if a < c.xoffAvailLow then true
  else if c.xonAvailHigh ≤ a then false
  else old

/-- `fcUpdate(p)` (45_flowcontrol.md R189). -/
def fcUpdate (s : State) (p : Port) : State :=
  s.setPort p { s.port p with
    xoffAsserted := xoffLevel s.prm (s.port p).xoffAsserted (s.avail (s.rxFifo p)) }

/-- "consume": `pop(rxFifo[p]); fcUpdate(p)` (42_framer.md introduction). -/
def consume (s : State) (p : Port) : State := fcUpdate (s.setRxFifo p (s.rxFifo p).tail) p

/-- The byte `b` is stored in `rxFifo[p]` and counted (40_port_fifo.md R91). -/
def storeRx (s : State) (p : Port) (b : Byte) : State :=
  s.setPort p { s.port p with
    rxFifo := s.rxFifo p ++ [b], rxByteCount := s.inc (s.port p).rxByteCount }

/-- The sticky bit `rxOverrun[p]` is set (40_port_fifo.md R92). -/
def markOverrun (s : State) (p : Port) : State := s.setPort p { s.port p with rxOverrun := true }

/-- `lineInject(p, b)`: a byte arrives on the line of `p` (40_port_fifo.md R91, R92). -/
def lineInject (s : State) (p : Port) (b : Byte) : State :=
  if s.pgState = .idle then s
  else if 1 ≤ s.avail (s.rxFifo p) then fcUpdate (storeRx s p b) p
  else markOverrun s p

end Sys2Proof.Machine
end

