-- ==== Sys2Proof/Machine/FlowControl.lean ====
section
/-!
DEFINITION. The XON/XOFF engine (45_flowcontrol.md): the peer's keywords, the stuck-XOFF poll and the recovery. The
hub's own XOFF is `fcUpdate` of Machine/Flags.lean.
-/

namespace Sys2Proof.Machine

/-- `xoffDetected[p] <- b`. -/
def setXoffDetected (s : State) (p : Port) (b : Bool) : State :=
  s.setPort p { s.port p with xoffDetected := b }

/-- `LINE_XOFF p` (45_flowcontrol.md R187). -/
def execLineXoff (p : Port) (s : State) : Host.Outcome State Fault Refusal :=
  reply (setXoffDetected s p true) .none

/-- `LINE_XON p` (45_flowcontrol.md R188). -/
def execLineXon (p : Port) (s : State) : Host.Outcome State Fault Refusal :=
  reply (setXoffDetected s p false) .none

/-- `sleepReq[p] <- b` (45_flowcontrol.md R191). -/
def setSleepReq (s : State) (p : Port) (b : Bool) : State :=
  s.setPort p { s.port p with sleepReq := b }

/-- The recovery of one port: assert sleep-request, drain, de-assert; the transmit FSM is then idle, always
(45_flowcontrol.md R191, 40_port_fifo.md R94). -/
def recoverPort (s : State) (p : Port) : State :=
  setSleepReq (portReset (setSleepReq s p true) p) p false

/-- `recovery()`: the four ports in turn (45_flowcontrol.md R191). -/
def recovery (s : State) : State := allPorts.foldl recoverPort s

/-- Every port is blocked by its peer's XOFF (45_flowcontrol.md R190). -/
def State.allBlocked (s : State) : Bool :=
  s.wsendXoff .h0 && s.wsendXoff .h1 && s.wsendXoff .h2 && s.wsendXoff .ext

/-- `xoffPollCount <- n`. -/
def State.setPoll (s : State) (n : Nat) : State := { s with xoffPollCount := n }

/-- The stuck-XOFF poll, the last part of a tick (45_flowcontrol.md R190). -/
def xoffPoll (s : State) : State :=
  if s.allBlocked then
    if s.prm.xoffPollMax ≤ s.xoffPollCount + 1 then (recovery s).setPoll 0
    else s.setPoll (s.xoffPollCount + 1)
  else s.setPoll 0

end Sys2Proof.Machine
end

