-- ==== Sys2Proof/Machine/PowerGate.lean ====
section
/-!
DEFINITION. The power and clock-gating FSM (44_powergate.md): OPEN, CLOSE, SET_TRX, CLEAR_TRX, IS_READY, and the FSM's
part of a tick. The FSM is a function of the power gate alone.
-/

namespace Sys2Proof.Machine

/-- `OPEN` (44_powergate.md R160). -/
def execOpen (s : State) : Host.Outcome State Fault Refusal :=
  reply
    (if s.opened then s
     else (s.setPg { s.pg with opened := true }).setIrqMasked false)
    .ok

/-- The power gate after a CLOSE of an open hub; `clkFail` is kept (44_powergate.md R161). -/
def PowerGate.close (g : PowerGate) : PowerGate :=
  { g with
    trxReq := .all (.all false), pgState := .idle, clkReq := .lowPower, clkSrc := .lowPower
    clkRetry := 0, settleCnt := 0, opened := false }

/-- `CLOSE` (44_powergate.md R161). -/
def execClose (s : State) : Host.Outcome State Fault Refusal :=
  reply (if s.opened then s.setPg s.pg.close else s) .ok

/-- The request bits of a host in the directions `d` set to `v`. -/
def writeBits (old : PerDir Bool) (d : DirField) (v : Bool) : PerDir Bool :=
  { tx := if covers d .tx then v else old.tx
    rx := if covers d .rx then v else old.rx }

/-- The request bits of host `h` in the directions `d` set to `v`. -/
def PowerGate.writeTrx (g : PowerGate) (h : HostPort) (d : DirField) (v : Bool) : PowerGate :=
  { g with trxReq := g.trxReq.set h (writeBits (g.trxReq.get h) d v) }

/-- What a request does to the FSM (44_powergate.md R162). -/
def PowerGate.requested (g : PowerGate) : PowerGate :=
  match g.pgState with
  | .idle => { g with pgState := .prepare }
  | .wait => { g with pgState := .ready, settleCnt := 0 }
  | .ckon => { g with clkRetry := 0 }
  | .prepare => g
  | .ready => g
  | .ckoff => g

/-- `SET_TRX h, d` (44_powergate.md R162, R165). -/
def execSetTrx (h : HostPort) (d : DirField) (s : State) : Host.Outcome State Fault Refusal :=
  if d = .none then fail s .invalidDirection
  else if s.opened = false then fail s .notOpen
  else reply (s.setPg (s.pg.writeTrx h d true).requested) .ok

/-- What the end of the last request does to the FSM (44_powergate.md R163). -/
def PowerGate.released (g : PowerGate) : PowerGate :=
  match g.pgState with
  | .ready => { g with pgState := .wait, settleCnt := 0 }
  | .ckon => { g with pgState := .ckoff, clkReq := .lowPower, clkRetry := 0 }
  | .idle => g
  | .prepare => g
  | .ckoff => g
  | .wait => g

/-- The power gate after CLEAR_TRX: `hubActive` is evaluated after the bits were cleared (44_powergate.md R163). -/
def PowerGate.cleared (g : PowerGate) (h : HostPort) (d : DirField) : PowerGate :=
  let g1 := g.writeTrx h d false
  if g1.hubActive then g1 else g1.released

/-- `CLEAR_TRX h, d` (44_powergate.md R163, R165). -/
def execClearTrx (h : HostPort) (d : DirField) (s : State) : Host.Outcome State Fault Refusal :=
  if d = .none then fail s .invalidDirection
  else if s.opened = false then fail s .notOpen
  else reply (s.setPg (s.pg.cleared h d)) .ok

/-- `IS_READY h` (44_powergate.md R164). -/
def execIsReady (h : HostPort) (s : State) : Host.Outcome State Fault Refusal :=
  reply s (.okValue (bitValue (s.hostReady h)))

/-! ## The FSM's part of a tick -/

/-- `leave()` of CKOFF (44_powergate.md R170). -/
def PowerGate.leave (g : PowerGate) : PowerGate :=
  { g with pgState := if g.hubActive then .prepare else .idle }

/-- One poll of the acquire in CKON (44_powergate.md R170). -/
def PowerGate.pollAcquire (c : Params) (a : Ack) (g : PowerGate) : PowerGate :=
  if g.clkRetry < c.clkRetryMax then
    if a = .highSpeed then { g with clkSrc := .highSpeed, clkFail := false, pgState := .ready }
    else
      { g with
        clkRetry := g.clkRetry + 1
        clkFail := if g.clkRetry + 1 = c.clkRetryMax then true else g.clkFail }
  else g

/-- One tick of the settle delay in WAIT (44_powergate.md R170). -/
def PowerGate.settle (c : Params) (g : PowerGate) : PowerGate :=
  if c.settleTicks ≤ g.settleCnt + 1 then
    { g with pgState := .ckoff, clkReq := .lowPower, clkRetry := 0, settleCnt := 0 }
  else { g with settleCnt := g.settleCnt + 1 }

/-- One poll of the release in CKOFF (44_powergate.md R170). -/
def PowerGate.pollRelease (c : Params) (a : Ack) (g : PowerGate) : PowerGate :=
  if a = .lowPower then PowerGate.leave { g with clkSrc := .lowPower }
  else if g.clkRetry + 1 = c.clkRetryMax then PowerGate.leave { g with clkFail := true, clkRetry := 0 }
  else { g with clkRetry := g.clkRetry + 1 }

/-- The FSM's part of `TICK(a)` (44_powergate.md R167, R170). -/
def PowerGate.tick (c : Params) (a : Ack) (g : PowerGate) : PowerGate :=
  match g.pgState with
  | .idle => g
  | .ready => g
  | .prepare =>
    if g.hubActive then { g with pgState := .ckon, clkReq := .highSpeed, clkRetry := 0 }
    else { g with pgState := .idle }
  | .ckon => g.pollAcquire c a
  | .wait => g.settle c
  | .ckoff => g.pollRelease c a

end Sys2Proof.Machine
end

