-- ==== Sys2Proof/Machine/Supervisor.lean ====
section
/-!
DEFINITION. The timeout and integrity supervisor (43_timeout.md): CONFIG_TIMEOUT, and the supervisor's part of a tick.
-/

namespace Sys2Proof.Machine

/-- The record after CONFIG_TIMEOUT: the new settings, the timer at 0, the counters kept (43_timeout.md R145). -/
def TimeoutRec.configure (t : TimeoutRec) (en rs : Bool) (per : Nat) : TimeoutRec :=
  { t with timeoutEnable := en, resyncEnabled := rs, timeoutPeriod := per, timer := 0 }

/-- One direction of CONFIG_TIMEOUT, where the direction field takes it in. -/
def configDir (s : State) (p : Port) (f : DirField) (d : Dir) (en rs : Bool) (per : Nat) : State :=
  if covers f d then s.setTmo p d ((s.tmo p d).configure en rs per) else s

/-- `CONFIG_TIMEOUT p, d, en, rs, per` (43_timeout.md R145). -/
def execConfigTimeout (p : Port) (d : DirField) (en rs : Bool) (per : BitVec 14) (s : State) :
    Host.Outcome State Fault Refusal :=
  if d = .none then fail s .invalidDirection
  else if per.toNat = 0 then fail s .invalidArg
  else reply (configDir (configDir s p d .tx en rs per.toNat) p d .rx en rs per.toNat) .ok

/-- Strict mode: the parser concerned is reset (43_timeout.md R149, R151). -/
def resync (s : State) (p : Port) (d : Dir) : State :=
  match d with
  | .rx => parserReset s p
  | .tx =>
    match p with
    | .ext =>
      match s.extOwner with
      | none => s
      | some h => parserReset s (hostPort h)
    | _ => parserReset s .ext

/-- The timer of (p, d) expires: it restarts, the timeout is counted and raised, and strict mode resets the parser
(43_timeout.md R148 to R151). -/
def expire (s : State) (p : Port) (d : Dir) : State :=
  let strict := (s.tmo p d).resyncEnabled
  let s1 := raiseFault ((s.setTimer p d 0).incTimeout p d) .timeoutError p
  if strict then resync s1 p d else s1

/-- The iteration of (p, d) in the supervisor's part of a tick (43_timeout.md R148). -/
def superviseOne (s : State) (p : Port) (d : Dir) : State :=
  if s.running p d && (s.tmo p d).timeoutEnable then
    if (s.tmo p d).timeoutPeriod ≤ s.timer p d + 1 then expire s p d
    else s.setTimer p d (s.timer p d + 1)
  else s

/-- The iterations of port `p`, RX before TX (43_timeout.md R148). -/
def supervisePort (s : State) (p : Port) : State := superviseOne (superviseOne s p .rx) p .tx

/-- The supervisor's part of a tick (43_timeout.md R148). -/
def supervise (s : State) : State := allPorts.foldl supervisePort s

end Sys2Proof.Machine
end

