-- ==== Sys2Proof/Machine/Faults.lean ====
section
/-!
DEFINITION. Faults and time (60_exceptions.md): TICK as a whole, the outside fault, and the operations of the interrupt
line and the fault bitmap.
-/

namespace Sys2Proof.Machine

/-- The start of a tick: time passes and the power FSM takes its step (60_exceptions.md R230). -/
def tickGate (s : State) (a : Ack) : State :=
  { s with now := s.inc s.now, pg := s.pg.tick s.prm a }

/-- `TICK(a)` on the state: the power FSM, then, unless it left the hub in IDLE, the supervisor and the stuck-XOFF poll
(60_exceptions.md R230). -/
def tickState (s : State) (a : Ack) : State :=
  if (tickGate s a).pgState = .idle then tickGate s a else xoffPoll (supervise (tickGate s a))

/-- `TICK a` (60_exceptions.md R230). -/
def execTick (a : Ack) (s : State) : Host.Outcome State Fault Refusal :=
  reply (tickState s a) .none

/-- `RESTORE_FAULT p` (60_exceptions.md R222). -/
def execRestoreFault (p : Port) (s : State) : Host.Outcome State Fault Refusal :=
  reply (raiseFault s .restoreError p) .none

/-- `IRQ_MASK` (60_exceptions.md R224). -/
def execIrqMask (s : State) : Host.Outcome State Fault Refusal :=
  reply (s.setIrqMasked true) .ok

/-- `IRQ_UNMASK` (60_exceptions.md R225). -/
def execIrqUnmask (s : State) : Host.Outcome State Fault Refusal :=
  reply (s.setIrqMasked false) .ok

/-- `READ_FAULTS` (60_exceptions.md R226). -/
def execReadFaults (s : State) : Host.Outcome State Fault Refusal :=
  reply s (.okValue (s.faultBitmap.setWidth 32))

/-- `CLEAR_FAULTS m` (60_exceptions.md R227). -/
def execClearFaults (m : Word16) (s : State) : Host.Outcome State Fault Refusal :=
  reply (ackFaults s m) .ok

end Sys2Proof.Machine
end

