-- ==== Sys2Proof/Machine/Crc.lean ====
section
/-!
DEFINITION. The CRC-16 generator and checker (41_crc.md R105 to R109): pure functions of byte lists.
-/

namespace Sys2Proof.Machine

/-- One shift of the CRC register: left by one, with the polynomial 0x1021 exclusive-ored in when the bit shifted out
was 1 (41_crc.md R105). -/
def crcShift (c : Word16) : Word16 :=
  if c.getLsbD 15 then (c <<< 1) ^^^ 0x1021 else c <<< 1

/-- `n` shifts of the CRC register. -/
def crcShifts : Nat → Word16 → Word16
  | 0, c => c
  | n + 1, c => crcShifts n (crcShift c)

/-- `crc_update(c, b)`: one byte step, most significant bit first (41_crc.md R105). -/
def crcUpdate (c : Word16) (b : Byte) : Word16 :=
  crcShifts 8 (c ^^^ (b.setWidth 16 <<< 8))

/-- The accumulator after the bytes `l`, from the value `c`. -/
def crcFold : Word16 → List Byte → Word16
  | c, [] => c
  | c, b :: l => crcFold (crcUpdate c b) l

/-- The initial value of the CRC register (41_crc.md R106). -/
def crcInit : Word16 := 0xFFFF

/-- `crc16(l)` (41_crc.md R106). -/
def crc16 (l : List Byte) : Word16 := crcFold crcInit l

/-- The two trailer bytes of a CRC in the given wire order (41_crc.md R108). -/
def crcTrailerIn (o : WireOrder) (c : Word16) : List Byte :=
  match o with
  | .lowFirst => [c.extractLsb' 0 8, c.extractLsb' 8 8]
  | .highFirst => [c.extractLsb' 8 8, c.extractLsb' 0 8]

/-- The CRC that two received trailer bytes carry in the given wire order (41_crc.md R108). -/
def crcOfTrailerIn (o : WireOrder) (t0 t1 : Byte) : Word16 :=
  match o with
  | .lowFirst => t1 ++ t0
  | .highFirst => t0 ++ t1

/-- `crcTrailer(c)`: low byte first (41_crc.md R108). -/
def crcTrailer (c : Word16) : List Byte := crcTrailerIn crcWireOrder c

/-- `crcOfTrailer([t0, t1])` (41_crc.md R108). -/
def crcOfTrailer (t0 t1 : Byte) : Word16 := crcOfTrailerIn crcWireOrder t0 t1

/-- The generator: `frameWithCrc(B)` (41_crc.md R109). -/
def frameWithCrc (body : List Byte) : List Byte := body ++ crcTrailer (crc16 body)

/-- The checker: does the received trailer match the CRC of `body` (41_crc.md R109). -/
def checkCrc (body : List Byte) (t0 t1 : Byte) : Bool := crcOfTrailer t0 t1 == crc16 body

end Sys2Proof.Machine
end

