-- ==== Sys2Proof/Machine/Monitor.lean ====
section
/-!
DEFINITION. The diagnostic monitor (46_monitor.md): capture (`tap`, `endEvent`), its control operations and MON_READ.
-/

namespace Sys2Proof.Machine

/-! ## Capture -/

/-- Capture happens only with the monitor enabled and outside bypass (46_monitor.md R202). -/
def State.capturing (s : State) : Bool := s.mon.monEnabled && !s.bypassMode

/-- The buffers of direction `d` replaced. -/
def Monitor.setDir (m : Monitor) (d : Dir) (x : MonDir) : Monitor := { m with dirs := m.dirs.set d x }

/-- The start of an event in CheckData mode (46_monitor.md R204). -/
def MonDir.startEvent (m : MonDir) (rolling : Bool) : MonDir :=
  { m with monCnt := 0, chkWr := if rolling then m.chkWr else 0 }

/-- One byte captured in CheckData mode, if fewer than 16 of the event have been (46_monitor.md R204). -/
def MonDir.capture (m : MonDir) (b : Byte) : MonDir :=
  if m.monCnt < 16 then
    { m with chk := m.chk.set m.chkWr b, chkWr := m.chkWr + 1, monCnt := m.monCnt + 1 }
  else m

/-- `tap(d, b, first)` on the monitor alone (46_monitor.md R203, R204, R205). -/
def Monitor.tap (m : Monitor) (d : Dir) (b : Byte) (first : Bool) : Monitor :=
  match m.monMode with
  | .packetInfo => m
  | .crcResult => m
  | .checkData =>
    m.setDir d ((if first then (m.dirs.get d).startEvent m.monRolling else m.dirs.get d).capture b)

/-- One record stored in PacketInfo mode (46_monitor.md R203). -/
def MonDir.record (m : MonDir) (r : PktInfo) : MonDir :=
  { m with pktInfo := m.pktInfo.set m.pktInfoWr r, pktInfoWr := m.pktInfoWr + 1 }

/-- One CRC stored in CrcResult mode (46_monitor.md R205). -/
def MonDir.storeCrc (m : MonDir) (c : Word16) : MonDir :=
  { m with crcRes := m.crcRes.set m.crcResWr c, crcResWr := m.crcResWr + 1 }

/-- A CRC of direction `d` stored, and mirrored into the TX view (46_monitor.md R205). -/
def Monitor.storeCrc (m : Monitor) (d : Dir) (c : Word16) : Monitor :=
  let m1 := m.setDir d ((m.dirs.get d).storeCrc c)
  if d = .rx ∧ m.monMirror = true then m1.setDir .tx (m1.dirs.tx.storeCrc c) else m1

/-- `endEvent(d, origin, escape, length, crc)` on the monitor alone (46_monitor.md R203, R204, R205). -/
def Monitor.endEvent (m : Monitor) (d : Dir) (r : PktInfo) (crc : Option Word16) : Monitor :=
  match m.monMode with
  | .packetInfo => m.setDir d ((m.dirs.get d).record r)
  | .checkData => m
  | .crcResult =>
    match crc with
    | none => m
    | some c => m.storeCrc d c

/-- The hub core reports one byte (46_monitor.md R202). -/
def tap (s : State) (d : Dir) (b : Byte) (first : Bool) : State :=
  if s.capturing then s.setMon (s.mon.tap d b first) else s

/-- The hub core reports the bytes of `l`, none of them the first of an event. -/
def tapRest (s : State) (d : Dir) (l : List Byte) : State :=
  l.foldl (fun t b => tap t d b false) s

/-- The hub core reports a whole header, whose first byte is the first of an event (46_monitor.md R202, R121). -/
def tapHeader (s : State) (d : Dir) (l : List Byte) : State :=
  match l with
  | [] => s
  | b :: l => tapRest (tap s d b true) d l

/-- The hub core reports the end of an event (46_monitor.md R202). -/
def endEvent (s : State) (d : Dir) (r : PktInfo) (crc : Option Word16) : State :=
  if s.capturing then s.setMon (s.mon.endEvent d r crc) else s

/-- `monLen[d] <- n`, part of the report of a complete header (46_monitor.md R202; assumption log 9). -/
def latchLen (s : State) (d : Dir) (n : Nat) : State :=
  if s.capturing then
    s.setMon (s.mon.setDir d { s.mon.dirs.get d with monLen := BitVec.ofNat 16 n })
  else s

/-- The record of a one-byte event (46_monitor.md R202). -/
def oneByteEvent (origin : BitVec 3) : PktInfo := { origin := origin, escape := true, length := 0 }

/-- The record of a completed frame (46_monitor.md R202). -/
def frameEvent (origin : BitVec 3) (length : Word16) : PktInfo :=
  { origin := origin, escape := false, length := length }

/-! ## Control -/

/-- `monClear()` (46_monitor.md R208). -/
def Monitor.clear (m : Monitor) : Monitor := { m with dirs := .all .cleared }

/-- `MON_ENABLE en` (46_monitor.md R200). -/
def execMonEnable (en : Bool) (s : State) : Host.Outcome State Fault Refusal :=
  reply
    (if en && !s.mon.monEnabled then s.setMon { s.mon.clear with monEnabled := true }
     else if en then s
     else s.setMon { s.mon with monEnabled := false })
    .ok

/-- `MON_CONFIG m, rolling, mirror` (46_monitor.md R201). -/
def execMonConfig (m : BitVec 2) (rolling mirror : Bool) (s : State) : Host.Outcome State Fault Refusal :=
  match monModeOf m with
  | none => fail s .invalidArg
  | some md =>
    let m1 := if md ≠ s.mon.monMode then { s.mon.clear with monMode := md } else s.mon
    reply (s.setMon { m1 with monRolling := rolling, monMirror := mirror }) .ok

/-! ## Reading -/

/-- The word a packet-info record reads as (46_monitor.md R207). -/
def PktInfo.word (r : PktInfo) : Word32 :=
  r.length.setWidth 32 + 2 ^ 16 * bitValue r.escape + 2 ^ 17 * r.origin.setWidth 32

/-- What MON_READ finds: slot or byte `i`, or the write pointer for `sel`; `none` is out of range (46_monitor.md
R207). -/
def monValue (md : MonMode) (m : MonDir) (sel : Bool) (i : BitVec 4) : Option Word32 :=
  if sel then
    if i ≠ 0 then none
    else
      match md with
      | .packetInfo => some (BitVec.ofNat 32 m.pktInfoWr.val)
      | .checkData => some (BitVec.ofNat 32 m.chkWr.val)
      | .crcResult => some (BitVec.ofNat 32 m.crcResWr.val)
  else
    match md with
    | .packetInfo => m.pktInfo[i.toNat]?.map PktInfo.word
    | .checkData => m.chk[i.toNat]?.map (BitVec.setWidth 32)
    | .crcResult => m.crcRes[i.toNat]?.map (BitVec.setWidth 32)

/-- `MON_READ d, sel, i` (46_monitor.md R207). -/
def execMonRead (d : DirField) (sel : Bool) (i : BitVec 4) (s : State) : Host.Outcome State Fault Refusal :=
  match singleDir d with
  | none => fail s .invalidDirection
  | some dd =>
    match monValue s.mon.monMode (s.mon.dirs.get dd) sel i with
    | none => fail s .invalidArg
    | some v => reply s (.okValue v)

end Sys2Proof.Machine
end

