-- ==== Sys2Proof/Machine/CoreRx.lean ====
section
/-!
DEFINITION. The hub core (42_framer.md): the cases of its one event `CORE_RX(s)`, each a function that answers `none`
where the case's condition does not hold (42_framer.md R129), and SET_BYPASS. `b` is always the byte at the head of
`rxFifo[p]`; the monitor's taps stand at the end of each case (46_monitor.md R202).
-/

namespace Sys2Proof.Machine

/-! ## At a frame boundary -/

/-- Frame start: the byte is held and the parser waits for a header of shape `sh` toward `dest` (42_framer.md R115). -/
def frameStart (s : State) (p : Port) (b : Byte) (sh : Shape) (dest : Port) : State :=
  ((consume s p).setParser p
    { s.rxp p with hdr := [b], shape := sh, dest := dest, crc := 0xFFFF, phase := .header }).setTimer p .rx 0

/-- The frame-start case: a type byte of host `h` goes to `h` from External and to External from the host
(42_framer.md R115). -/
def frameStartStep (s : State) (p : Port) (b : Byte) (h : HostPort) (sh : Shape) : Option State :=
  match p with
  | .ext => some (tap (frameStart s .ext b sh (hostPort h)) .rx b true)
  | p => some (frameStart s p b sh .ext)

/-- The keepalive case (42_framer.md R116). -/
def keepaliveStep (s : State) (b : Byte) : Option State :=
  some (endEvent (tap (consume s .ext) .rx b true) .rx (oneByteEvent 0) none)

/-- The explicit-target escape case: the byte goes to the host it names (42_framer.md R117). -/
def escapeStep (s : State) (b : Byte) (h : HostPort) : Option State :=
  if 1 ≤ s.avail (s.txFifo (hostPort h)) then
    some (endEvent (tap ((consume s .ext).pushTx (hostPort h) b) .rx b true) .rx
      (oneByteEvent (oneHot (hostPort h))) none)
  else none

/-- The case of an undefined first byte from External: forwarded to `H0` (42_framer.md R118). -/
def undefinedExtStep (s : State) (b : Byte) : Option State :=
  if 1 ≤ s.avail (s.txFifo .h0) then
    some (endEvent (tap (raiseFault ((consume s .ext).pushTx .h0 b) .packetTypeError .ext) .rx b true) .rx
      (oneByteEvent 0) none)
  else none

/-- The case of an undefined first byte from a host: forwarded to External when its path is free (42_framer.md
R119). -/
def undefinedHostStep (s : State) (h : HostPort) (b : Byte) : Option State :=
  if s.extOwner = none ∧ 1 ≤ s.avail (s.txFifo .ext) then
    some (endEvent (tap (raiseFault ((consume s (hostPort h)).pushTx .ext b) .packetTypeError (hostPort h)) .tx b true)
      .tx (oneByteEvent (oneHot (hostPort h))) none)
  else none

/-- The step on a first byte `b` of source port `p`, by its class (42_framer.md R115 to R119). -/
def boundaryStep (s : State) (p : Port) (b : Byte) : Option State :=
  match classify s.prm.typeMap p b with
  | .keepalive => keepaliveStep s b
  | .escape h => escapeStep s b h
  | .frameStart h sh => frameStartStep s p b h sh
  | .undefined =>
    match asHost p with
    | some h => undefinedHostStep s h b
    | none => undefinedExtStep s b

/-! ## The end of a frame -/

/-- `complete(p)`: the frame is counted, the path released, the parser back at the boundary, both timers stopped
(42_framer.md R129). -/
def completeFrame (s : State) (p : Port) : State :=
  let d := (s.rxp p).dest
  let s1 := (s.incPacket p .rx).incPacket d .tx
  let s2 := if (asHost p).isSome then s1.setOwner none else s1
  ((s2.setParser p (s2.rxp p).atBoundary).setTimer p .rx 0).setTimer d .tx 0

/-- `rxp[p].phase <- ph`. -/
def setPhase (s : State) (p : Port) (ph : Phase) : State := s.setParser p { s.rxp p with phase := ph }

/-- Whether the frame of source `p` is complete with its last payload byte: only External's, and only when its frames
carry no trailer (42_framer.md R123). -/
def State.endsAtPayload (s : State) (p : Port) : Bool := (asHost p).isNone && !s.prm.extRxCrc

/-- `afterPayload(p)` (42_framer.md R123). -/
def afterPayload (s : State) (p : Port) : State :=
  if s.endsAtPayload p then completeFrame s p else setPhase s p .crc

/-- The monitor's record of a frame from External that ends without a trailer (46_monitor.md R202). -/
def endUncheckedFrame (s : State) (p dest : Port) (length : Word16) : State :=
  if s.endsAtPayload p then endEvent s .rx (frameEvent (oneHot dest) length) none else s

/-! ## Header -/

/-- A header byte that is not the last is held (42_framer.md R121). -/
def headerHold (s : State) (p : Port) (b : Byte) : State :=
  let s1 := progress ((consume s p).setParser p { s.rxp p with hdr := (s.rxp p).hdr ++ [b] }) p none
  match p with
  | .ext => tap s1 .rx b false
  | _ => s1

/-- The last header byte: the whole header is written to the destination, the CRC and the payload length are taken
from it, and External's path gets its owner (42_framer.md R121). -/
def headerForward (s : State) (p : Port) (b : Byte) : State :=
  let r := s.rxp p
  let hdr := r.hdr ++ [b]
  let s1 := (consume s p).pushAllTx r.dest hdr
  let s2 := s1.setParser p
    { r with crc := crc16 hdr, remain := payloadLength r.shape hdr, hdr := [] }
  let s3 := if r.dest = .ext then s2.setOwner (asHost p) else s2
  progress s3 p (some r.dest)

/-- The monitor's report of a completed header (46_monitor.md R202). -/
def headerTaps (s : State) (p : Port) (b : Byte) (hdr : List Byte) : State :=
  match p with
  | .ext => latchLen (tap s .rx b false) .rx (s.rxp .ext).remain
  | p => latchLen (tapHeader s .tx hdr) .tx (s.rxp p).remain

/-- The header step, last byte (42_framer.md R121, R123). -/
def headerLast (s : State) (p : Port) (b : Byte) : State :=
  let r := s.rxp p
  let hdr := r.hdr ++ [b]
  let s1 := headerTaps (headerForward s p b) p b hdr
  if 0 < payloadLength r.shape hdr then setPhase s1 p .payload
  else endUncheckedFrame (afterPayload s1 p) p r.dest 0

/-- The condition of the last header byte (42_framer.md R121). -/
def State.headerFits (s : State) (p : Port) : Bool :=
  let r := s.rxp p
  decide (hdrLen r.shape ≤ s.avail (s.txFifo r.dest)) && (decide (r.dest ≠ .ext) || s.extOwner.isNone)

/-- The header case (42_framer.md R121). -/
def headerStep (s : State) (p : Port) (b : Byte) : Option State :=
  let r := s.rxp p
  if r.hdr.length + 1 < hdrLen r.shape then some (headerHold s p b)
  else if r.hdr.length + 1 = hdrLen r.shape ∧ s.headerFits p = true then some (headerLast s p b)
  else none

/-! ## Payload -/

/-- A payload byte is forwarded and enters the CRC (42_framer.md R122). -/
def payloadForward (s : State) (p : Port) (b : Byte) : State :=
  let r := s.rxp p
  let s1 := (consume s p).pushTx r.dest b
  let s2 := s1.setParser p { r with crc := crcUpdate r.crc b, remain := r.remain - 1 }
  progress s2 p (some r.dest)

/-- The monitor's report of a payload byte (46_monitor.md R202). -/
def payloadTap (s : State) (p : Port) (b : Byte) : State :=
  match p with
  | .ext => tap s .rx b false
  | _ => tap s .tx b false

/-- The payload case (42_framer.md R122, R123). -/
def payloadStep (s : State) (p : Port) (b : Byte) : Option State :=
  let r := s.rxp p
  if 1 ≤ s.avail (s.txFifo r.dest) then
    let s1 := payloadTap (payloadForward s p b) p b
    if r.remain - 1 = 0 then
      some (endUncheckedFrame (afterPayload s1 p) p r.dest (s1.mon.dirs.rx.monLen))
    else some s1
  else none

/-! ## Trailer -/

/-- Trailer generation for the frame of host `h`, which needs no byte (42_framer.md R124). -/
def trailerStep (s : State) (h : HostPort) : Option State :=
  let p := hostPort h
  let c := (s.rxp p).crc
  if 2 ≤ s.avail (s.txFifo .ext) then
    let s1 := completeFrame (progress (s.pushAllTx .ext (crcTrailer c)) p (some .ext)) p
    let s2 := tapRest s1 .tx (crcTrailer c)
    some (endEvent s2 .tx (frameEvent (oneHot p) s2.mon.dirs.tx.monLen) (some c))
  else none

/-- `crcFail(h)` (42_framer.md R127). -/
def crcFail (s : State) (h : Port) : State := raiseFault (s.incCrcErr h) .crcError h

/-- A trailer byte from External is taken (42_framer.md R125). -/
def trailerTake (s : State) (b : Byte) : State :=
  let r := s.rxp .ext
  progress ((consume s .ext).setParser .ext { r with trailer := r.trailer ++ [b] }) .ext (some r.dest)

/-- Trailer reception: the second byte is compared and completes the frame (42_framer.md R125, R126, R127). -/
def trailerRxStep (s : State) (b : Byte) : Option State :=
  let r := s.rxp .ext
  let s1 := trailerTake s b
  match r.trailer ++ [b] with
  | [t0, t1] =>
    let s2 := if crcOfTrailer t0 t1 = r.crc then s1 else crcFail s1 r.dest
    let s3 := tap (completeFrame s2 .ext) .rx b false
    some (endEvent s3 .rx (frameEvent (oneHot r.dest) s3.mon.dirs.rx.monLen) (some (crcOfTrailer t0 t1)))
  | _ => some (tap s1 .rx b false)

/-! ## Bypass -/

/-- The byte of source `p` goes to `q` as it is (42_framer.md R131). -/
def passThrough (s : State) (p q : Port) : Option State :=
  match s.rxFifo p with
  | [] => none
  | b :: _ => if 1 ≤ s.avail (s.txFifo q) then some ((consume s p).pushTx q b) else none

/-- CORE_RX in bypass mode: `H0` and External are joined, `H1` and `H2` are not connected (42_framer.md R131). -/
def bypassStep (s : State) (p : Port) : Option State :=
  match p with
  | .h0 => passThrough s .h0 .ext
  | .h1 => none
  | .h2 => none
  | .ext => passThrough s .ext .h0

/-- `SET_BYPASS en` (42_framer.md R130). -/
def execSetBypass (en : Bool) (s : State) : Host.Outcome State Fault Refusal :=
  reply
    (if en = s.bypassMode then s
     else { (allPorts.foldl parserReset s) with bypassMode := en })
    .ok

/-! ## The event -/

/-- The step on the byte at the head of `rxFifo[p]`, by the phase of the parser (42_framer.md R129 (iii)). -/
def byteStep (s : State) (p : Port) (b : Byte) : Option State :=
  match (s.rxp p).phase with
  | .boundary => boundaryStep s p b
  | .header => headerStep s p b
  | .payload => payloadStep s p b
  | .crc => trailerRxStep s b

/-- The step of a framed stream: a host's trailer needs no byte, every other case takes one (42_framer.md R129). -/
def framedStep (s : State) (p : Port) : Option State :=
  match asHost p, (s.rxp p).phase with
  | some h, .crc => trailerStep s h
  | _, _ =>
    match s.rxFifo p with
    | [] => none
    | b :: _ => byteStep s p b

/-- One step of the hub core on source port `p`, or `none` where CORE_RX(p) is not enabled (42_framer.md R129). -/
def coreStep (s : State) (p : Port) : Option State :=
  if s.pgState = .idle then none
  else if s.bypassMode then bypassStep s p
  else framedStep s p

/-- `CORE_RX p` (42_framer.md R115 to R131). -/
def execCoreRx (p : Port) (s : State) : Host.Outcome State Fault Refusal :=
  replyStep s (coreStep s p)

end Sys2Proof.Machine
end

