-- ==== Sys2Proof/Machine/FirstByte.lean ====
section
/-!
DEFINITION. The first-byte classes of opcode_table.json as events (30_encoding.md R64, R65): each is the hub core's
step on a byte of its class at the head of a stream that stands at a frame boundary (42_framer.md R115 to R119;
assumption log 7).
-/

namespace Sys2Proof.Machine

/-- The hub core may take byte `b` as a first byte of source port `p`: bytes are processed, outside bypass, the parser
is at a boundary and `b` is at the head of `rxFifo[p]` (42_framer.md R129). -/
def State.atBoundaryWith (s : State) (p : Port) (b : Byte) : Bool :=
  s.gateOpen && !s.bypassMode && decide ((s.rxp p).phase = .boundary) && decide ((s.rxFifo p).head? = some b)

/-- The event of a first-byte class: the step `t` if byte `b` of source port `p` is at hand and of class `c`; else the
event does not happen. -/
def firstByteEvent (s : State) (p : Port) (b : Byte) (c : FirstByteClass) (t : Option State) :
    Host.Outcome State Fault Refusal :=
  if s.atBoundaryWith p b = true ∧ classify s.prm.typeMap p b = c then replyStep s t
  else reply s .notEnabled

/-- The event of a frame-start class (42_framer.md R115). -/
def typeEvent (s : State) (src : FrameSource) (b : Byte) (h : HostPort) (sh : Shape) :
    Host.Outcome State Fault Refusal :=
  firstByteEvent s (src.port (hostPort h)) b (.frameStart h sh)
    (frameStartStep s (src.port (hostPort h)) b h sh)

/-- `KEEPALIVE` (42_framer.md R116). -/
def execKeepalive (s : State) : Host.Outcome State Fault Refusal :=
  firstByteEvent s .ext 0xFF .keepalive (keepaliveStep s 0xFF)

/-- `ESC_H0` (42_framer.md R117). -/
def execEscH0 (s : State) : Host.Outcome State Fault Refusal :=
  firstByteEvent s .ext 0xF0 (.escape .h0) (escapeStep s 0xF0 .h0)

/-- `ESC_H1` (42_framer.md R117). -/
def execEscH1 (s : State) : Host.Outcome State Fault Refusal :=
  firstByteEvent s .ext 0xF1 (.escape .h1) (escapeStep s 0xF1 .h1)

/-- `ESC_H2` (42_framer.md R117). -/
def execEscH2 (s : State) : Host.Outcome State Fault Refusal :=
  firstByteEvent s .ext 0xF2 (.escape .h2) (escapeStep s 0xF2 .h2)

/-- `TYPE_H0_B` (42_framer.md R115). -/
def execTypeH0B (src : FrameSource) (b : Byte) (s : State) : Host.Outcome State Fault Refusal :=
  typeEvent s src b .h0 .b

/-- `TYPE_H0_A` (42_framer.md R115). -/
def execTypeH0A (src : FrameSource) (b : Byte) (s : State) : Host.Outcome State Fault Refusal :=
  typeEvent s src b .h0 .a

/-- `TYPE_H0_C` (42_framer.md R115). -/
def execTypeH0C (src : FrameSource) (b : Byte) (s : State) : Host.Outcome State Fault Refusal :=
  typeEvent s src b .h0 .c

/-- `TYPE_H1_B` (42_framer.md R115). -/
def execTypeH1B (src : FrameSource) (b : Byte) (s : State) : Host.Outcome State Fault Refusal :=
  typeEvent s src b .h1 .b

/-- `TYPE_H1_A` (42_framer.md R115). -/
def execTypeH1A (src : FrameSource) (b : Byte) (s : State) : Host.Outcome State Fault Refusal :=
  typeEvent s src b .h1 .a

/-- `TYPE_H1_C` (42_framer.md R115). -/
def execTypeH1C (src : FrameSource) (b : Byte) (s : State) : Host.Outcome State Fault Refusal :=
  typeEvent s src b .h1 .c

/-- `TYPE_H2_B` (42_framer.md R115). -/
def execTypeH2B (src : FrameSource) (b : Byte) (s : State) : Host.Outcome State Fault Refusal :=
  typeEvent s src b .h2 .b

/-- `TYPE_H2_A` (42_framer.md R115). -/
def execTypeH2A (src : FrameSource) (b : Byte) (s : State) : Host.Outcome State Fault Refusal :=
  typeEvent s src b .h2 .a

/-- `TYPE_H2_C` (42_framer.md R115). -/
def execTypeH2C (src : FrameSource) (b : Byte) (s : State) : Host.Outcome State Fault Refusal :=
  typeEvent s src b .h2 .c

/-- `UNDEFINED_FROM_EXT` (42_framer.md R118). -/
def execUndefinedFromExt (b : Byte) (s : State) : Host.Outcome State Fault Refusal :=
  firstByteEvent s .ext b .undefined (undefinedExtStep s b)

/-- `UNDEFINED_FROM_HOST` (42_framer.md R119). -/
def execUndefinedFromHost (h : HostPort) (b : Byte) (s : State) : Host.Outcome State Fault Refusal :=
  firstByteEvent s (hostPort h) b .undefined (undefinedHostStep s h b)

end Sys2Proof.Machine
end

