-- ==== Sys2Proof/Machine/Port.lean ====
section
/-!
DEFINITION. The port and byte-stream family (40_port_fifo.md): manual FIFO access, port configuration, line events,
loopback, and the port reset of 42_framer.md R133.
-/

namespace Sys2Proof.Machine

/-! ## Manual FIFO access -/

/-- `WRITE_BYTE p, b` (40_port_fifo.md R85). -/
def execWriteByte (p : Port) (b : Byte) (s : State) : Host.Outcome State Fault Refusal :=
  reply (if s.txReady p then s.pushTx p b else s) .ok

/-- `READ_BYTE p` (40_port_fifo.md R86). -/
def execReadByte (p : Port) (s : State) : Host.Outcome State Fault Refusal :=
  match s.rxFifo p with
  | [] => reply s .okNone
  | b :: _ => reply (consume s p) (.okValue (b.setWidth 32))

/-- `IS_TX_READY p` (40_port_fifo.md R87). -/
def execIsTxReady (p : Port) (s : State) : Host.Outcome State Fault Refusal :=
  reply s (.okValue (bitValue (s.txReady p)))

/-- `IS_RX_READY p` (40_port_fifo.md R88). -/
def execIsRxReady (p : Port) (s : State) : Host.Outcome State Fault Refusal :=
  reply s (.okValue (bitValue (s.rxReady p)))

/-! ## Port configuration -/

/-- `CONFIG_BAUD p, r` (40_port_fifo.md R89). -/
def execConfigBaud (p : Port) (r : BitVec 3) (s : State) : Host.Outcome State Fault Refusal :=
  if h : r.toNat < 4 then reply (s.setPort p { s.port p with baudRateIndex := ⟨r.toNat, h⟩ }) .ok
  else if r.toNat ≤ 5 then fail s .unsupportedRate
  else fail s .invalidArg

/-- `SET_DMA p, d, en` (40_port_fifo.md R90). -/
def execSetDma (p : Port) (d : DirField) (en : Bool) (s : State) : Host.Outcome State Fault Refusal :=
  if d = .none then fail s .invalidDirection
  else
    reply
      (s.setPort p { s.port p with
        dmaTxEnabled := if covers d .tx then en else (s.port p).dmaTxEnabled
        dmaRxEnabled := if covers d .rx then en else (s.port p).dmaRxEnabled })
      .ok

/-- The wiring after CONFIG_LOOPBACK: enabling replaces, disabling the current wiring ends it (40_port_fifo.md R95). -/
def newWiring (old w : Wiring) (en : Bool) : Wiring :=
  if en then w else if old = w then .off else old

/-- `CONFIG_LOOPBACK p, d, en` (40_port_fifo.md R95). -/
def execConfigLoopback (p : Port) (d : DirField) (en : Bool) (s : State) : Host.Outcome State Fault Refusal :=
  match singleDir d with
  | none => fail s .invalidDirection
  | some dd => reply (s.setPort p { s.port p with loop := newWiring (s.port p).loop (wiringOf dd) en }) .ok

/-- `RESET_PORT p` (42_framer.md R133). -/
def execResetPort (p : Port) (s : State) : Host.Outcome State Fault Refusal :=
  reply (portReset s p) .ok

/-! ## Line events -/

/-- `LINE_IN p, b` (40_port_fifo.md R91, R92). -/
def execLineIn (p : Port) (b : Byte) (s : State) : Host.Outcome State Fault Refusal :=
  reply (lineInject s p b) .none

/-- The condition of `LINE_OUT p` (40_port_fifo.md R93). -/
def State.lineOutEnabled (s : State) (p : Port) : Bool :=
  s.gateOpen && decide (1 ≤ (s.txFifo p).length) && !(s.port p).xoffDetected && !(s.port p).sleepReq

/-- The byte at the head of `txFifo[p]` is taken and counted (40_port_fifo.md R93). -/
def transmit (s : State) (p : Port) : State :=
  s.setPort p { s.port p with
    txFifo := (s.txFifo p).tail, txByteCount := s.inc (s.port p).txByteCount }

/-- Where the byte that left goes: to the agent, or by a loopback wiring into an RX FIFO (40_port_fifo.md R93, R96). -/
def wireByte (s : State) (p : Port) (b : Byte) : State :=
  match (s.port p).loop with
  | .off => s
  | .selfRx => lineInject s p b
  | .extRx => lineInject s .ext b

/-- `LINE_OUT p` (40_port_fifo.md R93). -/
def execLineOut (p : Port) (s : State) : Host.Outcome State Fault Refusal :=
  if s.lineOutEnabled p then
    let b := (s.txFifo p).headD 0
    reply (wireByte (transmit s p) p b) (.left b (s.port p).loop)
  else reply s .notEnabled

end Sys2Proof.Machine
end

