-- ==== Sys2Proof/Machine/Dispatch.lean ====
section
/-!
DEFINITION. The meaning of every event: one arm per constructor of `Instr`, each one direct call.
-/

namespace Sys2Proof.Machine

def exec (i : Instr) (s : State) : Host.Outcome State Fault Refusal :=
  match i with
  | .openHub => Sys2Proof.Machine.execOpen s
  | .closeHub => Sys2Proof.Machine.execClose s
  | .setTrx h d => Sys2Proof.Machine.execSetTrx h d s
  | .clearTrx h d => Sys2Proof.Machine.execClearTrx h d s
  | .isReady h => Sys2Proof.Machine.execIsReady h s
  | .configLoopback p d en => Sys2Proof.Machine.execConfigLoopback p d en s
  | .setBypass en => Sys2Proof.Machine.execSetBypass en s
  | .configBaud p r => Sys2Proof.Machine.execConfigBaud p r s
  | .setDma p d en => Sys2Proof.Machine.execSetDma p d en s
  | .configTimeout p d en rs per => Sys2Proof.Machine.execConfigTimeout p d en rs per s
  | .resetPort p => Sys2Proof.Machine.execResetPort p s
  | .writeByte p b => Sys2Proof.Machine.execWriteByte p b s
  | .readByte p => Sys2Proof.Machine.execReadByte p s
  | .isTxReady p => Sys2Proof.Machine.execIsTxReady p s
  | .isRxReady p => Sys2Proof.Machine.execIsRxReady p s
  | .irqMask => Sys2Proof.Machine.execIrqMask s
  | .irqUnmask => Sys2Proof.Machine.execIrqUnmask s
  | .readFaults => Sys2Proof.Machine.execReadFaults s
  | .clearFaults m => Sys2Proof.Machine.execClearFaults m s
  | .monEnable en => Sys2Proof.Machine.execMonEnable en s
  | .monConfig m rolling mirror => Sys2Proof.Machine.execMonConfig m rolling mirror s
  | .monRead d sel idx => Sys2Proof.Machine.execMonRead d sel idx s
  | .lineIn p b => Sys2Proof.Machine.execLineIn p b s
  | .lineOut p => Sys2Proof.Machine.execLineOut p s
  | .lineXoff p => Sys2Proof.Machine.execLineXoff p s
  | .lineXon p => Sys2Proof.Machine.execLineXon p s
  | .tick a => Sys2Proof.Machine.execTick a s
  | .restoreFault p => Sys2Proof.Machine.execRestoreFault p s
  | .coreRx p => Sys2Proof.Machine.execCoreRx p s
  | .keepalive => Sys2Proof.Machine.execKeepalive s
  | .escH0 => Sys2Proof.Machine.execEscH0 s
  | .escH1 => Sys2Proof.Machine.execEscH1 s
  | .escH2 => Sys2Proof.Machine.execEscH2 s
  | .typeH0B src b => Sys2Proof.Machine.execTypeH0B src b s
  | .typeH0A src b => Sys2Proof.Machine.execTypeH0A src b s
  | .typeH0C src b => Sys2Proof.Machine.execTypeH0C src b s
  | .typeH1B src b => Sys2Proof.Machine.execTypeH1B src b s
  | .typeH1A src b => Sys2Proof.Machine.execTypeH1A src b s
  | .typeH1C src b => Sys2Proof.Machine.execTypeH1C src b s
  | .typeH2B src b => Sys2Proof.Machine.execTypeH2B src b s
  | .typeH2A src b => Sys2Proof.Machine.execTypeH2A src b s
  | .typeH2C src b => Sys2Proof.Machine.execTypeH2C src b s
  | .undefinedFromExt b => Sys2Proof.Machine.execUndefinedFromExt b s
  | .undefinedFromHost h b => Sys2Proof.Machine.execUndefinedFromHost h b s

end Sys2Proof.Machine
end

