-- ==== Sys2Proof/Machine/Fetch.lean ====
section
/-!
DEFINITION. What `step` fetches: the next event word of the schedule, and, for a CORE_RX word at a frame boundary, the
first byte of the stream, which says which first-byte class the event is (30_encoding.md R64, R65, R71; assumption
log 2, 7, 8).
-/

namespace Sys2Proof.Machine

/-- The event that decoding gives, refined by the first byte: a CORE_RX of a stream that stands at a frame boundary
with a byte at hand is the event of that byte's class. -/
def resolve (i : Instr) (s : State) : Instr :=
  match i with
  | .coreRx p =>
    match s.rxFifo p with
    | [] => .coreRx p
    | b :: _ => if s.atBoundaryWith p b then decodeFirstByte s.prm.typeMap p b else .coreRx p
  | i => i

/-- The event word of `CORE_RX EXT` (30_encoding.md R73). -/
def coreRxExtWord : Word32 := 0xC0300000

/-- The schedule with the word `w` in front. -/
def State.withNextWord (s : State) (w : Word32) : State := { s with schedule := w :: s.schedule }

/-- A state whose next step takes byte `b` as a first byte from External: the byte at the head of External's RX FIFO,
its parser at a boundary, bypass off, bytes processed, and a CORE_RX EXT scheduled (assumption log 8). -/
def State.withFirstByte (s : State) (b : Byte) : State :=
  let q := s.port .ext
  { (s.setPort .ext { q with rxFifo := b :: q.rxFifo, rxp := q.rxp.atBoundary }) with
    schedule := coreRxExtWord :: s.schedule
    bypassMode := false
    pg := if s.pgState = .idle then { s.pg with pgState := .prepare, opened := true } else s.pg }

end Sys2Proof.Machine
end

