-- ==== Sys2Proof/Machine/Step.lean ====
section
/-!
DEFINITION. One step of the machine: the next event of the schedule is decoded and run (20_memory.md R47, R48,
30_encoding.md R76; assumption log 2).
-/

namespace Sys2Proof.Machine

/-- The event word `w` happens in state `s`, from whose schedule it has been taken: a decoded event runs, an ill-formed
operation of the control host returns its error and changes nothing, an ill-formed word of another agent is no event
(30_encoding.md R75, R76). -/
def runWord (w : Word32) (s : State) : Host.Outcome State Fault Refusal :=
  match decodeEvent w with
  | .instr i => exec (resolve i s) s
  | .err c => fail s c
  | .notAnEvent => .refused (.notAnEvent w)

/-- One step. With no event scheduled nothing happens. -/
def step (s : State) : Host.Outcome State Fault Refusal :=
  match s.schedule with
  | [] => .next s
  | w :: rest => runWord w { s with schedule := rest }

/-- `s` with the opcode-table row of `nbits` bits `w` as its very next event: an event word goes to the front of the
schedule, a first byte to External's stream (assumption log 8). -/
def State.withFetchWord (s : State) (nbits w : Nat) : State :=
  if nbits = 8 then s.withFirstByte (BitVec.ofNat 8 w) else s.withNextWord (BitVec.ofNat 32 w)

end Sys2Proof.Machine
end

