-- ==== Sys2Proof/Machine/Handler.lean ====
section
/-!
DEFINITION. The fault handler's contract (60_exceptions.md R228): software, no part of the hub and no part of its state.
It is written down as a function from what the handler has read to the operations it issues and its own bookkeeping.
-/

namespace Sys2Proof.Machine

/-- The handler's own memory: the bitmap it last gave to the worker, and when (60_exceptions.md R228). -/
structure HandlerState where
  lastDispatched : Option Word16
  lastDispatchTime : Nat
  deriving DecidableEq, Repr

/-- Fault kind `k` has a bit set in `v` on some port (60_exceptions.md R215, R228). -/
def kindPresent (v : Word16) (k : FaultKind) : Bool := decide (v.extractLsb' (4 * faultKindNum k) 4 ≠ 0)

/-- The distinct known fault kinds of the bitmap `v` outside the benign bits (60_exceptions.md R228). -/
def handlerKinds (c : HandlerParams) (v : Word16) : List FaultKind :=
  [FaultKind.crcError, .packetTypeError, .timeoutError, .restoreError].filter (kindPresent (v &&& ~~~c.benignMask))

/-- The bitmap `v` is debounced at time `now` (60_exceptions.md R228). -/
def debounced (c : HandlerParams) (h : HandlerState) (v : Word16) (now : Nat) : Bool :=
  decide (h.lastDispatched = some v) && decide (now - h.lastDispatchTime < c.debounceTicks)

/-- What the handler does with the bitmap it read: whether the worker runs and calls back with the raw bitmap, and its
new memory (60_exceptions.md R228). -/
def handlerDecide (c : HandlerParams) (h : HandlerState) (v : Word16) (now : Nat) : Option Word16 × HandlerState :=
  if handlerKinds c v = [] then (none, h)
  else if debounced c h v now then (none, h)
  else (some v, { lastDispatched := some v, lastDispatchTime := now })

/-- The operations of the hub that one cycle issues before the decision (60_exceptions.md R228). -/
def handlerEntry : List Instr := [.irqMask, .readFaults]

/-- The operations that end the cycle, the same in each of its three cases (60_exceptions.md R228, R229). -/
def handlerExit (v : Word16) : List Instr := [.clearFaults v, .irqUnmask]

end Sys2Proof.Machine
end

