-- ==== Sys2Proof/Safety.lean ====
section
/-!
DEFINITION. The terms claims are made in: runs of events, the operand table of 30_encoding.md R74 as data, the enabling
condition of CORE_RX written on its own (42_framer.md R129), and the invariants of the hub.
-/

namespace Sys2Proof.Machine

/-! ## Runs -/

/-- The state after the events `l`, in order, if none of them stops. -/
def runEvents : List Instr → State → Option State
  | [], s => some s
  | i :: l, s =>
    match exec i s with
    | .next t => runEvents l t
    | .fault _ => none
    | .refused _ => none

/-- `SEND p, l` of 30_encoding.md R77 as events. -/
def sendEvents (p : Port) (l : List Byte) : List Instr := l.map (Instr.lineIn p)

/-- `n` steps of the hub core on source port `p`: the part of `RUN` that one stream takes (30_encoding.md R77). -/
def coreEvents (p : Port) (n : Nat) : List Instr := List.replicate n (.coreRx p)

/-- A step of the hub core that stays enabled is eventually taken, in the run `t` of events `e` (20_memory.md R48).
The one liveness assumption of the spec; the step function cannot show it (assumption log 12). -/
def WeaklyFair (t : Nat → State) (e : Nat → Instr) : Prop :=
  ∀ p n, (∀ m, n ≤ m → (coreStep (t m) p).isSome = true) → ∃ m, n ≤ m ∧ e m = .coreRx p

/-! ## The operand table -/

/-- The `port` column of 30_encoding.md R74. -/
inductive PortColumn where
  | noPort | hosts | any
  deriving DecidableEq, Repr

/-- The `dir` column of 30_encoding.md R74. -/
inductive DirColumn where
  | noDir | single | someDir
  deriving DecidableEq, Repr

/-- The `arg` column of 30_encoding.md R74: the values allowed. -/
inductive ArgColumn where
  /-- 0 -/
  | zero
  /-- `arg[0]` -/
  | oneBit
  /-- `arg[7:0]` -/
  | byte
  /-- all 16 bits -/
  | mask
  /-- `arg[2:0]` a rate index -/
  | rate
  /-- `arg[13:0]` a period of at least 1 -/
  | timeout
  /-- `arg[1:0]` a mode 0 to 2, `arg[2]`, `arg[3]` -/
  | monMode
  /-- `arg[3:0]` an index, `arg[4]`, with `arg[4]` the index 0 -/
  | monRead
  /-- 0, 1 or 2 -/
  | ack
  deriving DecidableEq, Repr

/-- The rows of 30_encoding.md R73 and R74 by op code. -/
def operandRow (op : Nat) : Option (PortColumn × DirColumn × ArgColumn) :=
  if op ∈ [0x01, 0x02, 0x20, 0x21, 0x22] then some (.noPort, .noDir, .zero)
  else if op ∈ [0x03, 0x04] then some (.hosts, .someDir, .zero)
  else if op = 0x05 then some (.hosts, .noDir, .zero)
  else if op = 0x06 then some (.any, .single, .oneBit)
  else if op ∈ [0x07, 0x30] then some (.noPort, .noDir, .oneBit)
  else if op = 0x08 then some (.any, .noDir, .rate)
  else if op = 0x09 then some (.any, .someDir, .oneBit)
  else if op = 0x0A then some (.any, .someDir, .timeout)
  else if op ∈ [0x0B, 0x11, 0x12, 0x13, 0x81, 0x82, 0x83, 0x85, 0xC0] then some (.any, .noDir, .zero)
  else if op ∈ [0x10, 0x80] then some (.any, .noDir, .byte)
  else if op = 0x23 then some (.noPort, .noDir, .mask)
  else if op = 0x31 then some (.noPort, .noDir, .monMode)
  else if op = 0x32 then some (.noPort, .single, .monRead)
  else if op = 0x84 then some (.noPort, .noDir, .ack)
  else none

/-- The control host causes the event: it has a caller an error can go to (30_encoding.md R73, R76). -/
def isControlOp (op : Nat) : Bool := decide (op < 0x80)

/-- The value of a `port` field is allowed. -/
def PortColumn.allows (c : PortColumn) (port : Nat) : Bool :=
  match c with
  | .noPort => port == 15
  | .hosts => decide (port ≤ 2)
  | .any => decide (port ≤ 3)

/-- The value of a `dir` field is allowed. -/
def DirColumn.allows (c : DirColumn) (dir : Nat) : Bool :=
  match c with
  | .noDir => dir == 0
  | .single => dir == 1 || dir == 2
  | .someDir => decide (1 ≤ dir ∧ dir ≤ 3)

/-- The error of an `arg` field, if it is out of range (30_encoding.md R74, R75, R76). -/
def ArgColumn.error (c : ArgColumn) (arg : Nat) : Option ErrCode :=
  match c with
  | .zero => if arg = 0 then none else some .invalidArg
  | .oneBit => if arg ≤ 1 then none else some .invalidArg
  | .byte => if arg ≤ 255 then none else some .invalidArg
  | .mask => none
  | .rate => if arg ≤ 3 then none else if arg ≤ 5 then some .unsupportedRate else some .invalidArg
  | .timeout => if arg % 2 ^ 14 = 0 then some .invalidArg else none
  | .monMode => if arg ≤ 15 ∧ arg % 4 ≤ 2 then none else some .invalidArg
  | .monRead => if arg ≤ 16 then none else some .invalidArg
  | .ack => if arg ≤ 2 then none else some .invalidArg

/-- The op code of a word as a number (30_encoding.md R71). -/
def opOf (w : Word32) : Nat := w.toNat / 2 ^ 24

/-- The error of a word: the checks of 30_encoding.md R76 in their order, on the numbers its fields hold. -/
def wordError (w : Word32) : Option ErrCode :=
  match operandRow (opOf w) with
  | none => some .invalidOp
  | some (pc, dc, ac) =>
    if pc.allows (w.toNat / 2 ^ 20 % 16) = false then some .invalidPort
    else if dc.allows (w.toNat / 2 ^ 16 % 16) = false then some .invalidDirection
    else ac.error (w.toNat % 2 ^ 16)

/-! ## What an event leaves, port by port -/

/-- The direction field `f` names direction `d` (30_encoding.md R71). -/
abbrev Names (f : DirField) (d : Dir) : Prop := f = .both ∨ (f = .tx ∧ d = .tx) ∨ (f = .rx ∧ d = .rx)

/-- Port `q` after one byte has been consumed from the stream of `p` and the bytes `l` have been appended to the TX FIFO
of `d`, if there is a `d` (42_framer.md introduction, 45_flowcontrol.md R189). -/
def movedPort (s : State) (p : Port) (d : Option Port) (l : List Byte) (q : Port) : PortState :=
  { s.port q with
    txFifo := if d = some q then s.txFifo q ++ l else s.txFifo q
    rxFifo := if q = p then (s.rxFifo q).tail else s.rxFifo q
    xoffAsserted :=
      if q = p then xoffLevel s.prm (s.port q).xoffAsserted (s.prm.fifoDepth - (s.rxFifo q).tail.length)
      else (s.port q).xoffAsserted }

/-- The timeout records of port `q` with the RX timer of `p` and the TX timer of `d` at 0 (43_timeout.md R146). -/
def restartedTimers (s : State) (p : Port) (d : Option Port) (q : Port) : PerDir TimeoutRec :=
  { tx := { s.tmo q .tx with timer := if d = some q then 0 else s.timer q .tx }
    rx := { s.tmo q .rx with timer := if q = p then 0 else s.timer q .rx } }

/-- The timeout records of port `q` after a frame from `p` to `d` is complete: both timers at 0, the frame counted on
both sides (42_framer.md R129). -/
def completedTimers (s : State) (p d q : Port) : PerDir TimeoutRec :=
  { tx :=
      { (restartedTimers s p (some d) q).tx with
        packetCount := if q = d then s.inc (s.tmo q .tx).packetCount else (s.tmo q .tx).packetCount }
    rx :=
      { (restartedTimers s p (some d) q).rx with
        packetCount := if q = p then s.inc (s.tmo q .rx).packetCount else (s.tmo q .rx).packetCount } }

/-- The monitor after a step of the hub core that reports `f` to it: nothing is captured with the monitor disabled or in
bypass (46_monitor.md R202). -/
def observed (s : State) (f : Monitor → Monitor) : Monitor :=
  if s.mon.monEnabled = true ∧ s.bypassMode = false then f s.mon else s.mon

/-- The taps of the bytes `l`, the first of them marked as first of an event if `first` (46_monitor.md R202). -/
def Monitor.tapList (m : Monitor) (d : Dir) (first : Bool) : List Byte → Monitor
  | [] => m
  | b :: l => Monitor.tapList (m.tap d b first) d false l

/-- `monLen[d] <- n` (46_monitor.md R202). -/
def Monitor.latched (m : Monitor) (d : Dir) (n : Nat) : Monitor :=
  m.setDir d { m.dirs.get d with monLen := BitVec.ofNat 16 n }

/-- The end of a frame of origin `o` in direction `d`, its length the one latched (46_monitor.md R202). -/
def Monitor.frameEnded (m : Monitor) (d : Dir) (o : BitVec 3) (crc : Option Word16) : Monitor :=
  m.endEvent d { origin := o, escape := false, length := (m.dirs.get d).monLen } crc

/-- The hub core may step on source port `p`, whose byte at hand is `b`, outside bypass. -/
structure AtByte (s : State) (p : Port) (b : Byte) : Prop where
  gate : s.pgState ≠ .idle
  framed : s.bypassMode = false
  head : (s.rxFifo p).head? = some b

/-- `AtByte` with the parser of `p` at a frame boundary: `b` is a first byte. -/
structure AtFirstByte (s : State) (p : Port) (b : Byte) : Prop extends AtByte s p b where
  boundary : (s.rxp p).phase = .boundary

/-- The room for `n` bytes in the TX FIFO of `p`. -/
abbrev Room (s : State) (p : Port) (n : Nat) : Prop := (s.txFifo p).length + n ≤ s.prm.fifoDepth

/-- The timer of (p, d) is due: it reaches its period at the next tick that the supervisor sees (43_timeout.md R148). -/
abbrev Firing (s : State) (p : Port) (d : Dir) : Prop :=
  s.running p d = true ∧ (s.tmo p d).timeoutEnable = true ∧ (s.tmo p d).timeoutPeriod ≤ s.timer p d + 1

/-- The source whose parser a strict expiry of (p, d) resets (43_timeout.md R149, R151). -/
def resyncSource (s : State) (p : Port) (d : Dir) : Option Port :=
  match d with
  | .rx => some p
  | .tx => if p = .ext then s.extOwner.map hostPort else some .ext

/-- The place of the timer (p, d) in the supervisor's order: H0, H1, H2, EXT, and of each RX before TX
(43_timeout.md R148). -/
def timerPlace (p : Port) (d : Dir) : Nat :=
  2 * portNum p + (match d with | .rx => 0 | .tx => 1)

/-- The next tick resets the parser of source `r` in strict mode: a timer of its frame is due and strict
(43_timeout.md R148, R149, R151). -/
abbrev Cut (s : State) (r : Port) : Prop :=
  ∃ q e, Firing s q e ∧ (s.tmo q e).resyncEnabled = true ∧ resyncSource s q e = some r

/-- The timer of (p, d) expires in the next tick: it is due, and no strict expiry at an earlier place has cut the frame it
watches (43_timeout.md R148). -/
abbrev Expires (s : State) (p : Port) (d : Dir) : Prop :=
  Firing s p d ∧ ∀ q e, timerPlace q e < timerPlace p d → Firing s q e → (s.tmo q e).resyncEnabled = true →
    resyncSource s q e ≠ resyncSource s p d

/-- The stuck-XOFF poll of the next tick runs the recovery (45_flowcontrol.md R190). -/
abbrev RecoveryDue (s : State) : Prop :=
  (∀ p, s.wsendXoff p = true) ∧ s.prm.xoffPollMax ≤ s.xoffPollCount + 1

/-- `i` is a step of the hub core on source port `p`: CORE_RX or the event of a first-byte class (30_encoding.md R64, R65,
42_framer.md R129). -/
abbrev CoreEvent (i : Instr) (p : Port) : Prop := i = .coreRx p ∨ ∃ b, encode i = .firstByte p b

/-- The loopback wiring of port `q` leads into the RX FIFO of `p` (40_port_fifo.md R96). -/
abbrev LoopsInto (s : State) (q p : Port) : Prop :=
  ((s.port q).loop = .selfRx ∧ q = p) ∨ ((s.port q).loop = .extRx ∧ p = .ext)

/-- `l` is a frame of host `h` without its trailer: a complete header of a type of `h`, then as many payload bytes as the
header says (30_encoding.md R60 to R62). -/
def IsFrame (m : TypeMap) (h : HostPort) (l : List Byte) : Prop :=
  ∃ sh hdr payload, l = hdr ++ payload ∧ hdr.length = hdrLen sh ∧ m.maps (byteAt hdr 0) h sh ∧
    payload.length = payloadLength sh hdr

/-- Each byte of `l` arrives on the line of `p` and is then taken by the hub core. -/
def frameEvents (p : Port) (l : List Byte) : List Instr := l.flatMap fun b => [.lineIn p b, .coreRx p]

/-- The number of ticks among the events `l`. -/
def tickCount (l : List Instr) : Nat := (l.filter fun i => match i with | .tick _ => true | _ => false).length

/-! ## The enabling of CORE_RX -/

/-- The condition of the one rule that matches a first byte of class `c` of source port `p` (42_framer.md R115 to
R119). -/
def classFits (s : State) (p : Port) (c : FirstByteClass) : Bool :=
  match c with
  | .keepalive => true
  | .escape h => decide ((s.txFifo (hostPort h)).length + 1 ≤ s.prm.fifoDepth)
  | .frameStart _ _ => true
  | .undefined =>
    if p = .ext then decide ((s.txFifo .h0).length + 1 ≤ s.prm.fifoDepth)
    else s.extOwner.isNone && decide ((s.txFifo .ext).length + 1 ≤ s.prm.fifoDepth)

/-- The condition of the one rule that matches the phase of a parser with byte `b` at hand (42_framer.md R115 to R119,
R121, R122, R125). -/
def byteFits (s : State) (p : Port) (b : Byte) : Bool :=
  let r := s.rxp p
  match r.phase with
  | .boundary => classFits s p (classify s.prm.typeMap p b)
  | .header =>
    decide (r.hdr.length + 1 < hdrLen r.shape) ||
      (decide (r.hdr.length + 1 = hdrLen r.shape) &&
        decide ((s.txFifo r.dest).length + hdrLen r.shape ≤ s.prm.fifoDepth) &&
        (decide (r.dest ≠ .ext) || s.extOwner.isNone))
  | .payload => decide ((s.txFifo r.dest).length + 1 ≤ s.prm.fifoDepth)
  | .crc => true

/-- `CORE_RX(p)` is enabled, as 42_framer.md R129 lists it: (i) bypass, (ii) a host's trailer, (iii) a byte at hand. -/
def coreEnabled (s : State) (p : Port) : Bool :=
  decide (s.pgState ≠ .idle) &&
    (if s.bypassMode then
      match p, s.rxFifo p with
      | .h0, _ :: _ => decide ((s.txFifo .ext).length + 1 ≤ s.prm.fifoDepth)
      | .ext, _ :: _ => decide ((s.txFifo .h0).length + 1 ≤ s.prm.fifoDepth)
      | _, _ => false
     else if p ≠ .ext ∧ (s.rxp p).phase = .crc then decide ((s.txFifo .ext).length + 2 ≤ s.prm.fifoDepth)
     else
      match s.rxFifo p with
      | [] => false
      | b :: _ => byteFits s p b)

/-! ## Invariants -/

/-- Every FIFO is within its capacity (10_state.md R12, R13). -/
def FifoInv (s : State) : Prop :=
  ∀ p, (s.txFifo p).length ≤ s.prm.fifoDepth ∧ (s.rxFifo p).length ≤ s.prm.fifoDepth

/-- XOFF before overflow: the level of the hub's own XOFF agrees with the free space (45_flowcontrol.md R192). -/
def XoffInv (s : State) : Prop :=
  ∀ p, ((s.port p).xoffAsserted = true → s.avail (s.rxFifo p) < s.prm.xonAvailHigh) ∧
    ((s.port p).xoffAsserted = false → s.prm.xoffAvailLow ≤ s.avail (s.rxFifo p))

/-- What each state of the power FSM says of the clock and of the requests (44_powergate.md R166, R171), with the ranges
of 10_state.md R27 and the closed hub of 44_powergate.md R160, R165. -/
def PowerInv (s : State) : Prop :=
  (s.pgState = .ready → s.pg.clkSrc = .highSpeed ∧ s.pg.clkReq = .highSpeed ∧ s.pg.hubActive = true) ∧
  (s.pgState = .wait → s.pg.clkSrc = .highSpeed ∧ s.pg.clkReq = .highSpeed ∧ s.pg.hubActive = false) ∧
  (s.pgState = .ckon → s.pg.clkReq = .highSpeed ∧ s.pg.hubActive = true) ∧
  (s.pgState = .idle → s.pg.clkReq = .lowPower ∧ s.pg.hubActive = false) ∧
  (s.pgState = .prepare → s.pg.clkReq = .lowPower) ∧
  (s.pgState = .ckoff → s.pg.clkReq = .lowPower) ∧
  (s.opened = false → s.pgState = .idle ∧ s.pg.trxReq = .all (.all false)) ∧
  s.pg.clkRetry ≤ s.prm.clkRetryMax ∧ (s.pgState = .ckoff → s.pg.clkRetry < s.prm.clkRetryMax) ∧
  s.pg.settleCnt < s.prm.settleTicks

/-- The frame of source `p` has been written to its destination and is not yet complete. -/
abbrev Delivering (r : Parser) : Prop := r.phase = .payload ∨ r.phase = .crc

/-- The parser of source port `p` is in one of the states its rules reach (10_state.md R22, 42_framer.md R115 to
R125). -/
def ParserInv (s : State) (p : Port) : Prop :=
  let r := s.rxp p
  (r.phase = .boundary → r.hdr = [] ∧ r.trailer = [] ∧ r.remain = 0 ∧ r.crc = 0xFFFF) ∧
  (r.phase = .header →
    1 ≤ r.hdr.length ∧ r.hdr.length < hdrLen r.shape ∧ r.trailer = [] ∧ r.remain = 0 ∧ r.crc = 0xFFFF) ∧
  (r.phase = .payload → r.hdr = [] ∧ r.trailer = [] ∧ 1 ≤ r.remain ∧ r.remain ≤ 65535) ∧
  (r.phase = .crc → r.hdr = [] ∧ r.remain = 0 ∧ r.trailer.length ≤ 1 ∧ (p ≠ .ext → r.trailer = []) ∧
    (p = .ext → s.prm.extRxCrc = true)) ∧
  (r.phase ≠ .boundary → (r.dest = .ext ↔ p ≠ .ext)) ∧
  (s.bypassMode = true → r.phase = .boundary)

/-- External's TX path is owned by exactly the host whose frame is being delivered (42_framer.md R120). -/
def OwnerInv (s : State) : Prop := ∀ h, s.extOwner = some h ↔ Delivering (s.rxp (hostPort h))

/-- A timer that is not running is 0, and a timer is below its period, which CONFIG_TIMEOUT can set to 1 to 16383
(10_state.md R29, 43_timeout.md R147, R148). -/
def TimerInv (s : State) : Prop :=
  ∀ p d, (s.running p d = false → s.timer p d = 0) ∧ s.timer p d < (s.tmo p d).timeoutPeriod ∧
    (s.tmo p d).timeoutPeriod ≤ 16383

/-- No CRC fault and no CRC error count is External's (10_state.md R20, 60_exceptions.md R215); the sleep request is 0
outside the recovery (10_state.md R21). -/
def AddresseeInv (s : State) : Prop :=
  s.faultBitmap.getLsbD 3 = false ∧ (s.port .ext).crcErrCount = 0 ∧ ∀ p, (s.port p).sleepReq = false

/-- The framing invariant of the hub. -/
def FrameInv (s : State) : Prop :=
  (∀ p, ParserInv s p) ∧ OwnerInv s ∧ TimerInv s ∧ AddresseeInv s

/-- Every counter of CNT_WIDTH bits is below 2^CNT_WIDTH (10_state.md R19, R20, R29, R31), and the small counters are
in their ranges (10_state.md R30, R34). -/
def CounterInv (s : State) : Prop :=
  (∀ p, (s.port p).txByteCount < 2 ^ s.prm.cntWidth ∧ (s.port p).rxByteCount < 2 ^ s.prm.cntWidth ∧
    (s.port p).crcErrCount < 2 ^ s.prm.cntWidth) ∧
  (∀ p d, (s.tmo p d).timeoutCount < 2 ^ s.prm.cntWidth ∧ (s.tmo p d).packetCount < 2 ^ s.prm.cntWidth) ∧
  s.now < 2 ^ s.prm.cntWidth ∧ s.faultTime < 2 ^ s.prm.cntWidth ∧
  s.xoffPollCount < s.prm.xoffPollMax ∧ ∀ d, (s.mon.dirs.get d).monCnt ≤ 16

end Sys2Proof.Machine
end

