-- ==== Sys2Proof/Certificates/Slice0/Obligations.lean ====
section
/-!
DEFINITION. The statements for the provers. Each is about every state and every parameter, unless it names a premise.
The field `result` is the model's own (assumption log 3); that an event which is not enabled leaves the state as it is with
the result `notEnabled` is the model's choice (assumption log 4); that a first-byte class is also an event of its own is the
model's choice (assumption log 7).
A statement of an event gives the next state as the state before with exactly the named fields changed, which is its
frame too.
-/

section

open Sys2Proof Sys2Proof.Machine

/-! ## Reset and invariants -/

/-- 70_reset_and_hazards.md R245: the state after hub init, field by field, for every value of the parameters. That
`State.reset` is the hub init with the default values is the model's choice (assumption log 1). -/
def Obligations.ResetLeavesTheStatedValues : Prop :=
  ∀ c : Params,
    (∀ p,
      (State.init c).txFifo p = [] ∧ (State.init c).rxFifo p = [] ∧
      ((State.init c).port p).dmaTxEnabled = false ∧ ((State.init c).port p).dmaRxEnabled = false ∧
      ((State.init c).port p).baudRateIndex = c.initBaud.get p ∧
      ((State.init c).port p).xoffAsserted = false ∧ ((State.init c).port p).xoffDetected = false ∧
      ((State.init c).port p).txByteCount = 0 ∧ ((State.init c).port p).rxByteCount = 0 ∧
      ((State.init c).port p).crcErrCount = 0 ∧ ((State.init c).port p).loop = .off ∧
      ((State.init c).port p).rxOverrun = false ∧ ((State.init c).port p).sleepReq = false ∧
      ((State.init c).rxp p).phase = .boundary ∧ ((State.init c).rxp p).hdr = [] ∧
      ((State.init c).rxp p).trailer = [] ∧ ((State.init c).rxp p).remain = 0 ∧
      ((State.init c).rxp p).crc = 0xFFFF) ∧
    (∀ p d,
      (State.init c).tmo p d =
        { timeoutEnable := (c.initTimeoutEn.get p).get d, resyncEnabled := (c.initResync.get p).get d
          timeoutPeriod := (c.timeoutTicks.get p).get d, timer := 0, timeoutCount := 0, packetCount := 0 }) ∧
    (State.init c).extOwner = none ∧ (State.init c).bypassMode = false ∧
    (State.init c).pg =
      { pgState := .idle, trxReq := .all (.all false), clkSrc := .lowPower, clkReq := .lowPower
        clkRetry := 0, clkFail := false, settleCnt := 0, opened := false } ∧
    (State.init c).xoffPollCount = 0 ∧ (State.init c).now = 0 ∧ (State.init c).faultBitmap = 0 ∧
    (State.init c).faultTime = 0 ∧ (State.init c).irqMasked = false ∧
    (State.init c).mon.monEnabled = false ∧ (State.init c).mon.monMode = .packetInfo ∧
    (State.init c).mon.monRolling = false ∧ (State.init c).mon.monMirror = false ∧
    (∀ d,
      (∀ i : Fin 4, ((State.init c).mon.dirs.get d).pktInfo[i] = { origin := 0, escape := false, length := 0 }) ∧
      (∀ i : Fin 16, ((State.init c).mon.dirs.get d).chk[i] = 0) ∧
      (∀ i : Fin 8, ((State.init c).mon.dirs.get d).crcRes[i] = 0) ∧
      ((State.init c).mon.dirs.get d).pktInfoWr = 0 ∧ ((State.init c).mon.dirs.get d).chkWr = 0 ∧
      ((State.init c).mon.dirs.get d).crcResWr = 0 ∧ ((State.init c).mon.dirs.get d).monCnt = 0 ∧
      ((State.init c).mon.dirs.get d).monLen = 0) ∧
    State.reset = State.init State.reset.prm ∧
    ∀ p d,
      (State.reset.port p).baudRateIndex = 0 ∧ (State.reset.tmo p d).timeoutEnable = true ∧
      (State.reset.tmo p d).resyncEnabled = false ∧ (State.reset.tmo p d).timeoutPeriod = 10

/-- The invariants hold after reset with every well-formed parameter set (00_scope.md R4), and at `State.reset`, whose
parameters are the spec's default column (assumption log 1). -/
def Obligations.InvariantsHoldAtReset : Prop :=
  (∀ c : Params, c.Wf →
    FifoInv (State.init c) ∧ XoffInv (State.init c) ∧ PowerInv (State.init c) ∧ FrameInv (State.init c) ∧
      CounterInv (State.init c)) ∧
  State.reset.prm.Wf ∧ FifoInv State.reset ∧ XoffInv State.reset ∧ PowerInv State.reset ∧ FrameInv State.reset ∧
  CounterInv State.reset

/-- 10_state.md R12, R13 and 45_flowcontrol.md R192: a step keeps every FIFO within its capacity and keeps the level of
the hub's own XOFF in agreement with the free space. -/
def Obligations.StepKeepsFifoAndXoffInvariants : Prop :=
  ∀ s t : State, s.prm.Wf → FifoInv s → XoffInv s → step s = .next t → FifoInv t ∧ XoffInv t

/-- 44_powergate.md R171: a step keeps what each power state says of the clock and of the requests; READY is the
commitment point. -/
def Obligations.StepKeepsThePowerInvariant : Prop :=
  ∀ s t : State, s.prm.Wf → PowerInv s → step s = .next t → PowerInv t

/-- 10_state.md R22, 42_framer.md R120, 43_timeout.md R147: a step keeps the framing invariant. -/
def Obligations.StepKeepsTheFrameInvariant : Prop :=
  ∀ s t : State, s.prm.Wf → FrameInv s → step s = .next t → FrameInv t

/-- 10_state.md R19, R20, R29 to R31, R34: a step keeps every counter in its range. -/
def Obligations.StepKeepsTheCounterInvariant : Prop :=
  ∀ s t : State, s.prm.Wf → CounterInv s → step s = .next t → CounterInv t

/-! ## Encoding -/

/-- 30_encoding.md R64 to R68, R71 to R74: decoding what the encoder writes for a well-formed event gives the event, for
every type map that 30_encoding.md R66 admits. -/
def Obligations.EncodedEventsDecodeToThemselves : Prop :=
  ∀ (m : TypeMap) (i : Instr), m.Wf → i.wellFormed m = true → decodeCode m (encode i) = .instr i

/-- 30_encoding.md R64, R65, R71 to R74: a code (an event word, or a byte of a stream) that decodes to an event is the
code the encoder writes for it, so no bit is dropped and no two codes have one meaning; a byte of a stream always decodes,
to a well-formed event. -/
def Obligations.EachCodeHasOneMeaning : Prop :=
  ∀ (m : TypeMap) (x : Code) (i : Instr), m.Wf → decodeCode m x = .instr i →
    encode i = x ∧ ∀ p b, x = .firstByte p b → i.wellFormed m = true

/-- 30_encoding.md R64, R65: the classes of a first byte from External, in the order of test, and of one from a host: a
type of its own range, and everything else. -/
def Obligations.FirstBytesAreClassified : Prop :=
  ∀ (m : TypeMap) (b : Byte), m.Wf →
    decodeFirstByte m .ext 0xFF = .keepalive ∧ decodeFirstByte m .ext 0xF0 = .escH0 ∧
    decodeFirstByte m .ext 0xF1 = .escH1 ∧ decodeFirstByte m .ext 0xF2 = .escH2 ∧
    (∀ h sh, m.maps b h sh → ¬ isEscape b ∧ decodeFirstByte m .ext b = typeInstr h sh .external b) ∧
    (¬ isEscape b → m.unmapped b → decodeFirstByte m .ext b = .undefinedFromExt b) ∧
    ∀ h,
      (∀ sh, m.maps b h sh → decodeFirstByte m (hostPort h) b = typeInstr h sh .owner b) ∧
      ((∀ sh, ¬ m.maps b h sh) → decodeFirstByte m (hostPort h) b = .undefinedFromHost h b)

/-- 30_encoding.md R76, with the operand table of R74 as `operandRow` and its checks in order as `wordError`: a word whose
op code is reserved or whose op code is the control host's returns its first error and changes nothing else; a word of
another agent with an error is no event, the machine has no next state for it (assumption log 5); every other word is a
well-formed event. That a CONFIG_BAUD word with a non-zero unused bit and the rate index 4 or 5 gives InvalidArg is the
model's choice (assumption log 6). -/
def Obligations.WordsAreJudgedInOrder : Prop :=
  ∀ (w : Word32) (s : State),
    (∀ c, wordError w = some c → (isControlOp (opOf w) = true ∨ operandRow (opOf w) = none) →
      runWord w s = .next { s with result := .err c }) ∧
    (∀ c, wordError w = some c → isControlOp (opOf w) = false → operandRow (opOf w) ≠ none →
      ∀ t, runWord w s ≠ .next t) ∧
    (wordError w = none → ∃ i, decodeEvent w = .instr i ∧ i.wellFormed s.prm.typeMap = true)

/-- 30_encoding.md R71 to R74: a few words written out from the tables. -/
def Obligations.SampleWordsDecode : Prop :=
  decodeEvent 0x01F00000 = .instr .openHub ∧ decodeEvent 0x03130000 = .instr (.setTrx .h1 .both) ∧
  decodeEvent 0x0802_0005 = .err .invalidDirection ∧ decodeEvent 0x08300003 = .instr (.configBaud .ext 3) ∧
  decodeEvent 0x0A02C00A = .instr (.configTimeout .h0 .rx true true 10) ∧
  decodeEvent 0x1010005A = .instr (.writeByte .h1 0x5A) ∧ decodeEvent 0x23F00080 = .instr (.clearFaults 0x0080) ∧
  decodeEvent 0x31F0000D = .instr (.monConfig 1 true true) ∧ decodeEvent 0x32F10008 = .instr (.monRead .tx false 8) ∧
  decodeEvent 0x80000002 = .instr (.lineIn .h0 0x02) ∧ decodeEvent 0x84F00001 = .instr (.tick .highSpeed) ∧
  decodeEvent 0x84F00003 = .notAnEvent ∧ decodeEvent 0xC0300000 = .instr (.coreRx .ext) ∧
  decodeFirstByte defaultTypeMap .h0 0x02 = .typeH0A .owner 0x02 ∧
  decodeFirstByte defaultTypeMap .ext 0x83 = .typeH2C .external 0x83 ∧
  decodeFirstByte defaultTypeMap .h1 0x02 = .undefinedFromHost .h1 0x02

/-! ## The step -/

/-- 20_memory.md R47, R48, 30_encoding.md R71: a step takes the next word of the schedule and is the event the word
decodes to; for a CORE_RX whose stream stands at a boundary with byte `b` at hand it is also the event of the first-byte
class of `b`. The schedule is the model's own (assumption log 2). -/
def Obligations.StepRunsTheDecodedEvent : Prop :=
  (∀ (s : State) (w : Word32) (rest : List Word32) (i : Instr), s.schedule = w :: rest → decodeEvent w = .instr i →
    step s = exec i { s with schedule := rest }) ∧
  (∀ (s : State) (w : Word32) (rest : List Word32) (p : Port) (b : Byte), s.schedule = w :: rest →
    decodeEvent w = .instr (.coreRx p) → AtFirstByte s p b →
    step s = exec (decodeFirstByte s.prm.typeMap p b) { s with schedule := rest }) ∧
  (∀ s : State, s.schedule = [] → step s = .next s)

/-- 42_framer.md R129 (iii): at a boundary, CORE_RX of a stream and the event of the class of its first byte are one
event; and the event of a class whose byte is not at hand does not happen (assumption log 4, 7). -/
def Obligations.FirstByteEventsAreCoreSteps : Prop :=
  ∀ (s : State) (p : Port) (b : Byte), s.prm.typeMap.Wf →
    (AtFirstByte s p b → exec (decodeFirstByte s.prm.typeMap p b) s = exec (.coreRx p) s) ∧
    (∀ i, encode i = .firstByte p b → i.wellFormed s.prm.typeMap = true → ¬ AtFirstByte s p b →
      exec i s = .next { s with result := .notEnabled })

/-- 60_exceptions.md R217: no condition stops the hub: every event answers a next state, in every state. -/
def Obligations.NoEventStopsTheHub : Prop :=
  ∀ (i : Instr) (s : State), ∃ t, exec i s = .next t

/-- What each event may write, taken from the "written by" clauses of 10_state.md R12 to R34 and from 44_powergate.md
R167 ("No other transition exists"): a part of the state that has changed names the event that changed it. Every field of
State but `result`, which every event writes (assumption log 3), has its clause. -/
def Obligations.EachPartIsWrittenByItsEventsOnly : Prop :=
  ∀ (i : Instr) (s t : State), exec i s = .next t →
    t.prm = s.prm ∧ t.schedule = s.schedule ∧
    (t.pg ≠ s.pg → i = .openHub ∨ i = .closeHub ∨ (∃ h d, i = .setTrx h d) ∨ (∃ h d, i = .clearTrx h d) ∨
      ∃ a, i = .tick a) ∧
    (t.opened ≠ s.opened → i = .openHub ∨ i = .closeHub) ∧
    (t.pg.trxReq ≠ s.pg.trxReq → i = .closeHub ∨ (∃ h d, i = .setTrx h d) ∨ ∃ h d, i = .clearTrx h d) ∧
    (t.bypassMode ≠ s.bypassMode → ∃ en, i = .setBypass en) ∧
    (t.extOwner ≠ s.extOwner →
      ∃ h, i = .coreRx (hostPort h) ∨ i = .resetPort (hostPort h) ∨ (∃ en, i = .setBypass en) ∨ ∃ a, i = .tick a) ∧
    (t.now ≠ s.now → ∃ a, i = .tick a) ∧ (t.xoffPollCount ≠ s.xoffPollCount → ∃ a, i = .tick a) ∧
    (t.faultBitmap ≠ s.faultBitmap →
      (∃ q, CoreEvent i q) ∨ (∃ a, i = .tick a) ∨ (∃ q, i = .restoreFault q) ∨ ∃ m, i = .clearFaults m) ∧
    (t.faultTime ≠ s.faultTime → (∃ q, CoreEvent i q) ∨ (∃ a, i = .tick a) ∨ ∃ q, i = .restoreFault q) ∧
    (t.irqMasked ≠ s.irqMasked → i = .openHub ∨ i = .irqMask ∨ i = .irqUnmask) ∧
    (t.mon.monEnabled ≠ s.mon.monEnabled → ∃ en, i = .monEnable en) ∧
    ((t.mon.monMode, t.mon.monRolling, t.mon.monMirror) ≠ (s.mon.monMode, s.mon.monRolling, s.mon.monMirror) →
      ∃ k rolling mirror, i = .monConfig k rolling mirror) ∧
    (t.mon.dirs ≠ s.mon.dirs →
      (∃ en, i = .monEnable en) ∨ (∃ k rolling mirror, i = .monConfig k rolling mirror) ∨
        s.mon.monEnabled = true ∧ ∃ q, CoreEvent i q) ∧
    ∀ p,
      (t.txFifo p ≠ s.txFifo p →
        (∃ b, i = .writeByte p b) ∨ i = .lineOut p ∨ i = .resetPort p ∨ (∃ a, i = .tick a) ∨ ∃ q, CoreEvent i q) ∧
      (t.rxFifo p ≠ s.rxFifo p ∨ (t.port p).xoffAsserted ≠ (s.port p).xoffAsserted →
        (∃ b, i = .lineIn p b) ∨ i = .readByte p ∨ i = .resetPort p ∨ (∃ a, i = .tick a) ∨ CoreEvent i p ∨
          ∃ q, i = .lineOut q ∧ LoopsInto s q p) ∧
      ((t.port p).baudRateIndex ≠ (s.port p).baudRateIndex → ∃ r, i = .configBaud p r) ∧
      ((t.port p).dmaTxEnabled ≠ (s.port p).dmaTxEnabled → ∃ d en, i = .setDma p d en) ∧
      ((t.port p).dmaRxEnabled ≠ (s.port p).dmaRxEnabled → ∃ d en, i = .setDma p d en) ∧
      ((t.port p).loop ≠ (s.port p).loop → ∃ d en, i = .configLoopback p d en) ∧
      ((t.port p).xoffDetected ≠ (s.port p).xoffDetected →
        i = .lineXoff p ∨ i = .lineXon p ∨ i = .resetPort p ∨ ∃ a, i = .tick a) ∧
      ((t.port p).txByteCount ≠ (s.port p).txByteCount → i = .lineOut p) ∧
      ((t.port p).rxByteCount ≠ (s.port p).rxByteCount ∨ (t.port p).rxOverrun ≠ (s.port p).rxOverrun →
        (∃ b, i = .lineIn p b) ∨ ∃ q, i = .lineOut q ∧ LoopsInto s q p) ∧
      ((s.port p).rxOverrun = true → (t.port p).rxOverrun = true) ∧
      ((t.port p).crcErrCount ≠ (s.port p).crcErrCount → i = .coreRx .ext) ∧
      ((t.port p).sleepReq ≠ (s.port p).sleepReq → i = .resetPort p ∨ ∃ a, i = .tick a) ∧
      ((t.port p).sleepReq = true → (s.port p).sleepReq = true) ∧
      (t.rxp p ≠ s.rxp p →
        CoreEvent i p ∨ i = .resetPort p ∨ (∃ en, i = .setBypass en) ∨ ∃ a, i = .tick a) ∧
      ∀ d,
        (((t.tmo p d).timeoutEnable, (t.tmo p d).resyncEnabled, (t.tmo p d).timeoutPeriod) ≠
            ((s.tmo p d).timeoutEnable, (s.tmo p d).resyncEnabled, (s.tmo p d).timeoutPeriod) →
          ∃ f en rs per, i = .configTimeout p f en rs per) ∧
        (t.timer p d ≠ s.timer p d →
          (∃ f en rs per, i = .configTimeout p f en rs per) ∨ (∃ q, CoreEvent i q) ∨ (∃ q, i = .resetPort q) ∨
            (∃ en, i = .setBypass en) ∨ ∃ a, i = .tick a) ∧
        ((t.tmo p d).timeoutCount ≠ (s.tmo p d).timeoutCount → ∃ a, i = .tick a) ∧
        ((t.tmo p d).packetCount ≠ (s.tmo p d).packetCount → ∃ q, i = .coreRx q)

/-! ## The power gate -/

/-- 44_powergate.md R160, R161: OPEN and CLOSE. A second OPEN changes nothing, a CLOSE when closed changes nothing at all;
with the hub closed the interrupt line is low. -/
def Obligations.OpenArmsAndCloseTearsDown : Prop :=
  ∀ s : State,
    exec .openHub s = .next { s with
      pg := { s.pg with opened := true }
      irqMasked := if s.opened then s.irqMasked else false
      result := .ok } ∧
    (s.opened = true →
      exec .closeHub s = .next { s with
        pg := { s.pg with
          trxReq := .all (.all false), pgState := .idle, clkReq := .lowPower, clkSrc := .lowPower
          clkRetry := 0, settleCnt := 0, opened := false }
        result := .ok }) ∧
    (s.opened = false → exec .closeHub s = .next { s with result := .ok } ∧ s.irqLine = false)

/-- 44_powergate.md R162 and R165: SET_TRX. A direction of none is the model's clause of 30_encoding.md R76 (assumption
log 6). -/
def Obligations.SetTrxRequestsAndWakes : Prop :=
  ∀ (s : State) (h : HostPort) (d : DirField),
    (d = .none → exec (.setTrx h d) s = .next { s with result := .err .invalidDirection }) ∧
    (d ≠ .none → s.opened = false → exec (.setTrx h d) s = .next { s with result := .err .notOpen }) ∧
    (d ≠ .none → s.opened = true →
      ∃ t, exec (.setTrx h d) s = .next t ∧
        t = { s with
          pg := { s.pg with
            trxReq := t.pg.trxReq
            pgState := match s.pgState with
              | .idle => .prepare
              | .wait => .ready
              | .ckon => .ckon
              | .prepare => .prepare
              | .ready => .ready
              | .ckoff => .ckoff
            settleCnt := if s.pgState = .wait then 0 else s.pg.settleCnt
            clkRetry := if s.pgState = .ckon then 0 else s.pg.clkRetry }
          result := .ok } ∧
        ∀ g e, ((t.pg.trxReq.get g).get e = true ↔ (g = h ∧ Names d e) ∨ (s.pg.trxReq.get g).get e = true)) ∧
    (∀ dir arg, decodeFields 0x03 3 dir arg = .err .invalidPort)

/-- 44_powergate.md R163 and R165: CLEAR_TRX; whether a request is left is judged after the bits were cleared. A direction
of none is the model's clause of 30_encoding.md R76 (assumption log 6). -/
def Obligations.ClearTrxReleasesTheLast : Prop :=
  ∀ (s : State) (h : HostPort) (d : DirField),
    (d = .none → exec (.clearTrx h d) s = .next { s with result := .err .invalidDirection }) ∧
    (d ≠ .none → s.opened = false → exec (.clearTrx h d) s = .next { s with result := .err .notOpen }) ∧
    (d ≠ .none → s.opened = true →
      ∃ t, exec (.clearTrx h d) s = .next t ∧
        (∀ g e, ((t.pg.trxReq.get g).get e = true ↔ ¬ (g = h ∧ Names d e) ∧ (s.pg.trxReq.get g).get e = true)) ∧
        ((∃ g e, (t.pg.trxReq.get g).get e = true) ∨ (s.pgState ≠ .ready ∧ s.pgState ≠ .ckon) →
          t = { s with pg := { s.pg with trxReq := t.pg.trxReq }, result := .ok }) ∧
        ((∀ g e, (t.pg.trxReq.get g).get e = false) → s.pgState = .ready →
          t = { s with
            pg := { s.pg with trxReq := t.pg.trxReq, pgState := .wait, settleCnt := 0 }, result := .ok }) ∧
        ((∀ g e, (t.pg.trxReq.get g).get e = false) → s.pgState = .ckon →
          t = { s with
            pg := { s.pg with trxReq := t.pg.trxReq, pgState := .ckoff, clkReq := .lowPower, clkRetry := 0 }
            result := .ok })) ∧
    (∀ dir arg, decodeFields 0x04 3 dir arg = .err .invalidPort)

/-- 44_powergate.md R164: IS_READY answers 1 only in READY and only to an active host, and changes no state; a closed hub,
which the power invariant keeps out of READY, answers 0. -/
def Obligations.IsReadyAnswersTheCommitment : Prop :=
  ∀ (s : State) (h : HostPort),
    ((s.pgState = .ready ∧ ((s.pg.trxReq.get h).tx = true ∨ (s.pg.trxReq.get h).rx = true)) →
      exec (.isReady h) s = .next { s with result := .okValue 1 }) ∧
    (¬ (s.pgState = .ready ∧ ((s.pg.trxReq.get h).tx = true ∨ (s.pg.trxReq.get h).rx = true)) →
      exec (.isReady h) s = .next { s with result := .okValue 0 }) ∧
    (PowerInv s → s.opened = false → exec (.isReady h) s = .next { s with result := .okValue 0 }) ∧
    (∀ dir arg, decodeFields 0x05 3 dir arg = .err .invalidPort)

/-- 44_powergate.md R170: the FSM's part of a tick, row by row, for every acknowledgement; `now` advances too. -/
def Obligations.TickMovesThePowerGate : Prop :=
  ∀ (s : State) (a : Ack), ∃ t, exec (.tick a) s = .next t ∧ t.now = (s.now + 1) % 2 ^ s.prm.cntWidth ∧
    (s.pgState = .idle ∨ s.pgState = .ready → t.pg = s.pg) ∧
    (s.pgState = .prepare → s.pg.hubActive = true →
      t.pg = { s.pg with pgState := .ckon, clkReq := .highSpeed, clkRetry := 0 }) ∧
    (s.pgState = .prepare → s.pg.hubActive = false → t.pg = { s.pg with pgState := .idle }) ∧
    (s.pgState = .ckon → s.pg.clkRetry < s.prm.clkRetryMax → a = .highSpeed →
      t.pg = { s.pg with clkSrc := .highSpeed, clkFail := false, pgState := .ready }) ∧
    (s.pgState = .ckon → s.pg.clkRetry < s.prm.clkRetryMax → a ≠ .highSpeed →
      t.pg = { s.pg with
        clkRetry := s.pg.clkRetry + 1
        clkFail := s.pg.clkFail || decide (s.pg.clkRetry + 1 = s.prm.clkRetryMax) }) ∧
    (s.pgState = .ckon → s.prm.clkRetryMax ≤ s.pg.clkRetry → t.pg = s.pg) ∧
    (s.pgState = .wait → s.pg.settleCnt + 1 < s.prm.settleTicks →
      t.pg = { s.pg with settleCnt := s.pg.settleCnt + 1 }) ∧
    (s.pgState = .wait → s.prm.settleTicks ≤ s.pg.settleCnt + 1 →
      t.pg = { s.pg with pgState := .ckoff, clkReq := .lowPower, clkRetry := 0, settleCnt := 0 }) ∧
    (s.pgState = .ckoff → a = .lowPower →
      t.pg = { s.pg with clkSrc := .lowPower, pgState := if s.pg.hubActive then .prepare else .idle }) ∧
    (s.pgState = .ckoff → a ≠ .lowPower → s.pg.clkRetry + 1 = s.prm.clkRetryMax →
      t.pg = { s.pg with
        clkFail := true, clkRetry := 0, pgState := if s.pg.hubActive then .prepare else .idle }) ∧
    (s.pgState = .ckoff → a ≠ .lowPower → s.pg.clkRetry + 1 ≠ s.prm.clkRetryMax →
      t.pg = { s.pg with clkRetry := s.pg.clkRetry + 1 })

/-- 44_powergate.md R172: a CLEAR_TRX that empties the requests in READY, then any events without a CLOSE and with fewer
than SETTLE_TICKS ticks, then a SET_TRX: the hub is in READY and the clock request has never changed. -/
def Obligations.RapidClearAndRequestCoalesce : Prop :=
  ∀ (s u v : State) (h g : HostPort) (d e : DirField) (l : List Instr),
    s.pgState = .ready → s.opened = true → d ≠ .none → e ≠ .none → s.prm.Wf →
    exec (.clearTrx h d) s = .next u → u.pg.hubActive = false →
    .closeHub ∉ l → tickCount l < s.prm.settleTicks → runEvents l u = some v →
    v.pg.clkReq = s.pg.clkReq ∧ v.pg.clkSrc = s.pg.clkSrc ∧
    ∃ t, exec (.setTrx g e) v = .next t ∧ t.pgState = .ready ∧ t.pg.clkReq = s.pg.clkReq

/-! ## Ports and byte streams -/

/-- 40_port_fifo.md R95: CONFIG_LOOPBACK. The error for Both is the rule's, the error for no direction the model's clause of
30_encoding.md R76 (assumption log 6). -/
def Obligations.ConfigLoopbackSetsTheWiring : Prop :=
  ∀ (s : State) (p : Port) (en : Bool),
    (∀ d, d = .none ∨ d = .both →
      exec (.configLoopback p d en) s = .next { s with result := .err .invalidDirection }) ∧
    (∀ d w, (d = .tx ∧ w = .selfRx) ∨ (d = .rx ∧ w = .extRx) →
      exec (.configLoopback p d en) s =
        .next { s.setPort p { s.port p with
            loop := if en = true then w else if (s.port p).loop = w then .off else (s.port p).loop } with
          result := .ok })

/-- 40_port_fifo.md R89, R90: CONFIG_BAUD stores the four supported rates, the two reserved ones fail, and a failing call
changes nothing; SET_DMA sets the flags of the directions it names. A direction of none is the model's clause of
30_encoding.md R76 (assumption log 6). -/
def Obligations.BaudAndDmaAreConfigured : Prop :=
  ∀ (s : State) (p : Port) (r : BitVec 3) (d : DirField) (en : Bool),
    (∀ k : Fin 4, r.toNat = k.val →
      exec (.configBaud p r) s =
        .next { s.setPort p { s.port p with baudRateIndex := k } with result := .ok }) ∧
    (r.toNat = 4 ∨ r.toNat = 5 → exec (.configBaud p r) s = .next { s with result := .err .unsupportedRate }) ∧
    (r.toNat = 6 ∨ r.toNat = 7 → exec (.configBaud p r) s = .next { s with result := .err .invalidArg }) ∧
    (d ≠ .none →
      exec (.setDma p d en) s =
        .next { s.setPort p { s.port p with
            dmaTxEnabled := if d = .tx ∨ d = .both then en else (s.port p).dmaTxEnabled
            dmaRxEnabled := if d = .rx ∨ d = .both then en else (s.port p).dmaRxEnabled } with
          result := .ok }) ∧
    (d = .none → exec (.setDma p d en) s = .next { s with result := .err .invalidDirection })

/-- 43_timeout.md R145: CONFIG_TIMEOUT. A direction of none is the model's clause of 30_encoding.md R76 (assumption
log 6). -/
def Obligations.ConfigTimeoutSetsTheRecords : Prop :=
  ∀ (s : State) (p : Port) (d : DirField) (en rs : Bool) (per : BitVec 14),
    (d = .none → exec (.configTimeout p d en rs per) s = .next { s with result := .err .invalidDirection }) ∧
    (d ≠ .none → per.toNat = 0 →
      exec (.configTimeout p d en rs per) s = .next { s with result := .err .invalidArg }) ∧
    (d ≠ .none → 1 ≤ per.toNat →
      ∃ t, exec (.configTimeout p d en rs per) s = .next t ∧
        t = { s.setPort p { s.port p with tmo := (t.port p).tmo } with result := .ok } ∧
        ∀ e, t.tmo p e =
          if Names d e then
            { s.tmo p e with timeoutEnable := en, resyncEnabled := rs, timeoutPeriod := per.toNat, timer := 0 }
          else s.tmo p e)

/-- 40_port_fifo.md R85: WRITE_BYTE: the byte is taken only if the hub is not in IDLE and there is room; the result is
`Ok` either way. -/
def Obligations.WriteByteIsTakenWhenReady : Prop :=
  ∀ (s : State) (p : Port) (b : Byte),
    (s.pgState ≠ .idle → Room s p 1 →
      exec (.writeByte p b) s =
        .next { s.setPort p { s.port p with txFifo := s.txFifo p ++ [b] } with result := .ok }) ∧
    (s.pgState = .idle ∨ ¬ Room s p 1 → exec (.writeByte p b) s = .next { s with result := .ok })

/-- 40_port_fifo.md R86 to R88, 45_flowcontrol.md R189: READ_BYTE takes the byte at the head and updates the hub's own XOFF,
in every power state; IS_TX_READY and IS_RX_READY answer and change no state. -/
def Obligations.FifosAreReadAndPolled : Prop :=
  ∀ (s : State) (p : Port),
    (∀ b rest, s.rxFifo p = b :: rest →
      exec (.readByte p) s =
        .next { s.setPort p { s.port p with
            rxFifo := rest
            xoffAsserted :=
              if s.prm.fifoDepth - rest.length < s.prm.xoffAvailLow then true
              else if s.prm.xonAvailHigh ≤ s.prm.fifoDepth - rest.length then false
              else (s.port p).xoffAsserted } with
          result := .okValue (b.setWidth 32) }) ∧
    (s.rxFifo p = [] → exec (.readByte p) s = .next { s with result := .okNone }) ∧
    exec (.isTxReady p) s =
      .next { s with result := .okValue (if s.pgState ≠ .idle ∧ 1 ≤ s.prm.fifoDepth - (s.txFifo p).length then 1 else 0) } ∧
    exec (.isRxReady p) s = .next { s with result := .okValue (if 1 ≤ (s.rxFifo p).length then 1 else 0) }

/-- 40_port_fifo.md R91, R92, 45_flowcontrol.md R189: LINE_IN: the byte is stored and counted, or lost with the overrun
bit set, or lost without a record in IDLE. -/
def Obligations.LineInStoresOrLoses : Prop :=
  ∀ (s : State) (p : Port) (b : Byte),
    (s.pgState = .idle → exec (.lineIn p b) s = .next { s with result := .none }) ∧
    (s.pgState ≠ .idle → (s.rxFifo p).length + 1 ≤ s.prm.fifoDepth →
      exec (.lineIn p b) s =
        .next { s.setPort p { s.port p with
            rxFifo := s.rxFifo p ++ [b]
            rxByteCount := ((s.port p).rxByteCount + 1) % 2 ^ s.prm.cntWidth
            xoffAsserted :=
              if s.prm.fifoDepth - ((s.rxFifo p).length + 1) < s.prm.xoffAvailLow then true
              else if s.prm.xonAvailHigh ≤ s.prm.fifoDepth - ((s.rxFifo p).length + 1) then false
              else (s.port p).xoffAsserted } with
          result := .none }) ∧
    (s.pgState ≠ .idle → s.prm.fifoDepth ≤ (s.rxFifo p).length →
      exec (.lineIn p b) s = .next { s.setPort p { s.port p with rxOverrun := true } with result := .none })

/-- 40_port_fifo.md R93, R96: LINE_OUT. The byte leaves and is counted; unwired it reaches the agent, wired it goes where
LINE_IN of the byte on the wired port would put it. Not enabled, nothing happens (the result says so, assumption
log 4). -/
def Obligations.LineOutSendsTheHead : Prop :=
  ∀ (s : State) (p : Port),
    (∀ b rest, s.pgState ≠ .idle → s.txFifo p = b :: rest → (s.port p).xoffDetected = false →
      (s.port p).sleepReq = false →
      ((s.port p).loop = .off →
        exec (.lineOut p) s =
          .next { s.setPort p { s.port p with
              txFifo := rest, txByteCount := ((s.port p).txByteCount + 1) % 2 ^ s.prm.cntWidth } with
            result := .left b .off }) ∧
      (∀ q, ((s.port p).loop = .selfRx ∧ q = p) ∨ ((s.port p).loop = .extRx ∧ q = .ext) →
        ∃ t,
          exec (.lineIn q b)
            (s.setPort p { s.port p with
              txFifo := rest, txByteCount := ((s.port p).txByteCount + 1) % 2 ^ s.prm.cntWidth }) = .next t ∧
          exec (.lineOut p) s = .next { t with result := .left b (s.port p).loop })) ∧
    (s.pgState = .idle ∨ s.txFifo p = [] ∨ (s.port p).xoffDetected = true ∨ (s.port p).sleepReq = true →
      exec (.lineOut p) s = .next { s with result := .notEnabled })

/-- 40_port_fifo.md R97: with its own RX wired and nothing waiting, WRITE_BYTE then LINE_OUT does what LINE_IN does, and
counts one transmitted byte. -/
def Obligations.LoopbackSendsAsTheHost : Prop :=
  ∀ (s u v : State) (p : Port) (b : Byte), s.prm.Wf → s.pgState ≠ .idle → (s.port p).loop = .selfRx →
    (s.port p).xoffDetected = false → (s.port p).sleepReq = false → s.txFifo p = [] →
    runEvents [.writeByte p b, .lineOut p] s = some u → runEvents [.lineIn p b] s = some v →
    u = { v.setPort p { v.port p with txByteCount := s.inc (s.port p).txByteCount } with result := .left b .selfRx }

/-! ## Flow control -/

/-- 45_flowcontrol.md R187, R188: the peer's keywords, in every power state. -/
def Obligations.LineXoffAndXonSetThePeerFlag : Prop :=
  ∀ (s : State) (p : Port),
    exec (.lineXoff p) s = .next { s.setPort p { s.port p with xoffDetected := true } with result := .none } ∧
    exec (.lineXon p) s = .next { s.setPort p { s.port p with xoffDetected := false } with result := .none }

/-- 45_flowcontrol.md R185, R186, R193: whatever the event, the hub's own XOFF rises only where fewer than
XOFF_AVAIL_LOW bytes are free after it, and falls only where at least XON_AVAIL_HIGH are. -/
def Obligations.OwnXoffMovesOnlyAtItsThresholds : Prop :=
  ∀ (i : Instr) (s t : State) (p : Port), s.prm.Wf → exec i s = .next t →
    ((s.port p).xoffAsserted = false → (t.port p).xoffAsserted = true →
      s.prm.fifoDepth - (t.rxFifo p).length < s.prm.xoffAvailLow) ∧
    ((s.port p).xoffAsserted = true → (t.port p).xoffAsserted = false →
      s.prm.xonAvailHigh ≤ s.prm.fifoDepth - (t.rxFifo p).length)

/-- 45_flowcontrol.md R190, R191: a tick that finds every port blocked for the last time it may runs the recovery: after
it every FIFO is empty, every XOFF flag 0, every parser at its boundary, the path free, every timer 0. -/
def Obligations.StuckXoffRunsTheRecovery : Prop :=
  ∀ (s : State) (a : Ack), FrameInv s → (s.pg.tick s.prm a).pgState ≠ .idle → RecoveryDue s →
    ∃ t, exec (.tick a) s = .next t ∧
      t = { s with
        now := s.inc s.now, pg := s.pg.tick s.prm a, ports := t.ports, extOwner := none, xoffPollCount := 0
        faultBitmap := t.faultBitmap, faultTime := t.faultTime, result := .none } ∧
      ∀ p,
        t.port p = { s.port p with
          txFifo := [], rxFifo := [], xoffAsserted := false, xoffDetected := false, sleepReq := false
          rxp := { s.rxp p with phase := .boundary, hdr := [], trailer := [], remain := 0, crc := 0xFFFF }
          tmo := (t.port p).tmo } ∧
        ∀ d, t.tmo p d = { s.tmo p d with timer := 0, timeoutCount := (t.tmo p d).timeoutCount }

/-! ## Ticks and timeouts -/

/-- 43_timeout.md R148, 44_powergate.md R176, 45_flowcontrol.md R190, 60_exceptions.md R230: a tick that leaves the hub in
IDLE moves `now` and the power gate only. -/
def Obligations.TickInIdleMovesTimeOnly : Prop :=
  ∀ (s : State) (a : Ack), (s.pg.tick s.prm a).pgState = .idle →
    exec (.tick a) s = .next { s with
      now := (s.now + 1) % 2 ^ s.prm.cntWidth, pg := s.pg.tick s.prm a, result := .none }

/-- 43_timeout.md R147, R148, R150, R152, 45_flowcontrol.md R190: which timers run; and a tick in which no timer in strict
mode expires and no recovery is due: each running enabled timer advances or expires on its own, an expiry counts and raises
TimeoutError of its port, and no parser, no owner and no FIFO changes. -/
def Obligations.RelaxedTimeoutsKeepTheFrame : Prop :=
  (∀ s : State,
    (∀ p, s.running p .rx = true ↔ s.bypassMode = false ∧ (s.rxp p).phase ≠ .boundary) ∧
    (s.running .ext .tx = true ↔ s.bypassMode = false ∧ s.extOwner ≠ none) ∧
    ∀ h, s.running (hostPort h) .tx = true ↔
      s.bypassMode = false ∧ ((s.rxp .ext).phase = .payload ∨ (s.rxp .ext).phase = .crc) ∧
        (s.rxp .ext).dest = hostPort h) ∧
  ∀ (s : State) (a : Ack), (s.pg.tick s.prm a).pgState ≠ .idle →
    (∀ p d, Firing s p d → (s.tmo p d).resyncEnabled = false) → ¬ RecoveryDue s →
    ∃ t, exec (.tick a) s = .next t ∧
      t = { s with
        now := s.inc s.now, pg := s.pg.tick s.prm a, ports := t.ports
        xoffPollCount := if ∀ p ∈ allPorts, s.wsendXoff p = true then s.xoffPollCount + 1 else 0
        faultBitmap := t.faultBitmap, faultTime := t.faultTime, result := .none } ∧
      (∀ p, t.port p = { s.port p with tmo := (t.port p).tmo }) ∧
      (∀ p d, t.tmo p d = { s.tmo p d with
        timer :=
          if s.running p d = true ∧ (s.tmo p d).timeoutEnable = true then
            if (s.tmo p d).timeoutPeriod ≤ s.timer p d + 1 then 0 else s.timer p d + 1
          else s.timer p d
        timeoutCount :=
          if s.running p d = true ∧ (s.tmo p d).timeoutEnable = true ∧
              (s.tmo p d).timeoutPeriod ≤ s.timer p d + 1 then
            s.inc (s.tmo p d).timeoutCount
          else (s.tmo p d).timeoutCount }) ∧
      (∀ n, t.faultBitmap.getLsbD n = true ↔
        s.faultBitmap.getLsbD n = true ∨ ∃ p d, Firing s p d ∧ n = faultBit .timeoutError p) ∧
      ((∃ p d, Firing s p d) → t.faultTime = s.inc s.now) ∧
      ((∀ p d, ¬ Firing s p d) → t.faultTime = s.faultTime)

/-- 43_timeout.md R147 to R151: a strict expiry resets the parser of the source concerned, releases External's path if that
source held it, and leaves every FIFO as it is; it counts and raises TimeoutError like a relaxed one. With any number of
expiries in one tick, in the order of R148: a timer that is due expires unless a strict expiry before it has cut the frame it
watches (`Expires`), so a strict expiry of the RX timer of External's owner keeps the TX timer of External from expiring in
that tick; each frame that a strict expiry cuts (`Cut`) loses its parser, its path and both its timers. -/
def Obligations.StrictTimeoutsResetTheParser : Prop :=
  (∀ (s : State) (a : Ack) (p src : Port) (d : Dir), (s.pg.tick s.prm a).pgState ≠ .idle → ¬ RecoveryDue s →
      Firing s p d → (s.tmo p d).resyncEnabled = true → resyncSource s p d = some src →
      (∀ q e, (q, e) ≠ (p, d) → Firing s q e → (s.tmo q e).resyncEnabled = false) →
      ∃ t, exec (.tick a) s = .next t ∧
        t.rxp src =
          { s.rxp src with phase := .boundary, hdr := [], trailer := [], remain := 0, crc := 0xFFFF } ∧
        (∀ q, q ≠ src → t.rxp q = s.rxp q) ∧
        (∀ q, t.txFifo q = s.txFifo q ∧ t.rxFifo q = s.rxFifo q) ∧
        t.extOwner = (if s.extOwner ≠ none ∧ s.extOwner = asHost src then none else s.extOwner) ∧
        t.timer p d = 0 ∧ t.timer src .rx = 0 ∧ (t.tmo p d).timeoutCount = s.inc (s.tmo p d).timeoutCount ∧
        (t.tmo p d).packetCount = (s.tmo p d).packetCount ∧
        t.faultBitmap.getLsbD (faultBit .timeoutError p) = true ∧ t.faultTime = s.inc s.now) ∧
  ∀ (s : State) (a : Ack), FrameInv s → (s.pg.tick s.prm a).pgState ≠ .idle → ¬ RecoveryDue s →
    ∃ t, exec (.tick a) s = .next t ∧
      t = { s with
        now := s.inc s.now, pg := s.pg.tick s.prm a, ports := t.ports, extOwner := t.extOwner
        xoffPollCount := if ∀ p ∈ allPorts, s.wsendXoff p = true then s.xoffPollCount + 1 else 0
        faultBitmap := t.faultBitmap, faultTime := t.faultTime, result := .none } ∧
      (∀ h, t.extOwner = some h ↔ s.extOwner = some h ∧ ¬ Cut s (hostPort h)) ∧
      (∀ p, t.port p = { s.port p with rxp := t.rxp p, tmo := (t.port p).tmo }) ∧
      (∀ p, Cut s p →
        t.rxp p =
          { s.rxp p with phase := .boundary, hdr := [], trailer := [], remain := 0, crc := 0xFFFF }) ∧
      (∀ p, ¬ Cut s p → t.rxp p = s.rxp p) ∧
      (∀ p d, t.tmo p d =
        { s.tmo p d with timer := t.timer p d, timeoutCount := (t.tmo p d).timeoutCount }) ∧
      (∀ p d, Expires s p d →
        (t.tmo p d).timeoutCount = s.inc (s.tmo p d).timeoutCount ∧ t.timer p d = 0) ∧
      (∀ p d, ¬ Expires s p d → (t.tmo p d).timeoutCount = (s.tmo p d).timeoutCount) ∧
      (∀ p d r, resyncSource s p d = some r → Cut s r → t.timer p d = 0) ∧
      (∀ p d, ¬ Firing s p d → (∀ r, resyncSource s p d = some r → ¬ Cut s r) →
        t.timer p d =
          if s.running p d = true ∧ (s.tmo p d).timeoutEnable = true then s.timer p d + 1 else s.timer p d) ∧
      (∀ n, t.faultBitmap.getLsbD n = true ↔
        s.faultBitmap.getLsbD n = true ∨ ∃ p d, Expires s p d ∧ n = faultBit .timeoutError p) ∧
      ((∃ p d, Expires s p d) → t.faultTime = s.inc s.now) ∧
      ((∀ p d, ¬ Expires s p d) → t.faultTime = s.faultTime) ∧
      ∀ h, s.extOwner = some h → Firing s (hostPort h) .rx → (s.tmo (hostPort h) .rx).resyncEnabled = true →
        (t.tmo .ext .tx).timeoutCount = (s.tmo .ext .tx).timeoutCount

/-! ## Faults and the interrupt line -/

/-- 60_exceptions.md R219, R222, R224 to R227: RESTORE_FAULT sets bit 12 plus the number of the port, and the time, and
nothing else; masking, unmasking, reading and write-one-to-clear. -/
def Obligations.FaultsAreRaisedReadAndCleared : Prop :=
  ∀ (s : State) (m : Word16) (p : Port),
    (∃ t, exec (.restoreFault p) s = .next t ∧
      t = { s with faultBitmap := t.faultBitmap, faultTime := s.now, result := .none } ∧
      ∀ n, t.faultBitmap.getLsbD n = true ↔ s.faultBitmap.getLsbD n = true ∨ n = 12 + portNum p) ∧
    exec .irqMask s = .next { s with irqMasked := true, result := .ok } ∧
    exec .irqUnmask s = .next { s with irqMasked := false, result := .ok } ∧
    (s.faultBitmap ≠ 0 → s.opened = true →
      ∀ t, exec .irqUnmask s = .next t → t.irqLine = true) ∧
    exec .readFaults s = .next { s with result := .okValue (s.faultBitmap.setWidth 32) } ∧
    ∃ t, exec (.clearFaults m) s = .next t ∧ t = { s with faultBitmap := t.faultBitmap, result := .ok } ∧
      ∀ n, t.faultBitmap.getLsbD n = (s.faultBitmap.getLsbD n && !m.getLsbD n)

/-- 10_state.md R32, 60_exceptions.md R215, R216: a fault bit is cleared only by a CLEAR_FAULTS that names it, and set only
by the cause of its kind on its port. -/
def Obligations.FaultBitsHaveTheirCausesOnly : Prop :=
  ∀ (i : Instr) (s t : State) (k : FaultKind) (p : Port), exec i s = .next t →
    (s.faultBitmap.getLsbD (faultBit k p) = true → t.faultBitmap.getLsbD (faultBit k p) = false →
      ∃ m, i = .clearFaults m ∧ m.getLsbD (faultBit k p) = true) ∧
    (s.faultBitmap.getLsbD (faultBit k p) = false → t.faultBitmap.getLsbD (faultBit k p) = true →
      t.faultTime = t.now ∧
      match k with
      | .crcError =>
        i = .coreRx .ext ∧ (s.rxp .ext).phase = .crc ∧ (s.rxp .ext).dest = p ∧
          ∃ t0 t1, (s.rxp .ext).trailer = [t0] ∧ AtByte s .ext t1 ∧ t1 ++ t0 ≠ (s.rxp .ext).crc
      | .packetTypeError =>
        ∃ b, AtFirstByte s p b ∧
          (i = .coreRx p ∨ i = .undefinedFromExt b ∨ ∃ h, i = .undefinedFromHost h b) ∧
          (decodeFirstByte s.prm.typeMap p b = .undefinedFromExt b ∨
            ∃ h, decodeFirstByte s.prm.typeMap p b = .undefinedFromHost h b)
      | .timeoutError => (∃ a, i = .tick a) ∧ ∃ d, Firing s p d
      | .restoreError => i = .restoreFault p)

/-- 60_exceptions.md R223: the level of the interrupt line, and its edge: it rises by OPEN, by IRQ_UNMASK, or by a fault
that finds the bitmap zero. -/
def Obligations.InterruptLineLevelAndEdge : Prop :=
  (∀ s : State, s.irqLine = true ↔ s.opened = true ∧ s.irqMasked = false ∧ s.faultBitmap ≠ 0) ∧
  ∀ (i : Instr) (s t : State), exec i s = .next t → s.irqLine = false → t.irqLine = true →
    (i = .openHub ∧ s.opened = false ∧ s.faultBitmap ≠ 0) ∨
    (i = .irqUnmask ∧ s.irqMasked = true ∧ s.faultBitmap ≠ 0) ∨
    (s.opened = true ∧ s.irqMasked = false ∧ s.faultBitmap = 0 ∧ t.faultTime = t.now)

/-! ## The hub core -/

/-- 42_framer.md R129: CORE_RX is enabled exactly when its case's condition holds, and then the hub core takes its step;
not enabled, nothing happens (the result says so, assumption log 4). -/
def Obligations.CoreStepsWhenEnabled : Prop :=
  ∀ (s : State) (p : Port),
    (coreEnabled s p = true → ∃ t, exec (.coreRx p) s = .next t ∧ t.result = .none ∧
      t.ports ≠ s.ports) ∧
    (coreEnabled s p = false → exec (.coreRx p) s = .next { s with result := .notEnabled })

/-- 42_framer.md R115, 46_monitor.md R202: a frame starts. `typeInstr h sh` is the constructor of the row: typeH0B, typeH0A,
typeH0C, typeH1B, typeH1A, typeH1C, typeH2B, typeH2A, typeH2C; that the row is an event is the model's choice (assumption
log 7). -/
def Obligations.FrameStartHoldsTheTypeByte : Prop :=
  ∀ (s : State) (p : Port) (b : Byte) (h : HostPort) (sh : Shape) (src : FrameSource),
    s.prm.typeMap.Wf → AtFirstByte s p b → s.prm.typeMap.maps b h sh → p = src.port (hostPort h) →
    ∃ t, exec (.coreRx p) s = .next t ∧ exec (typeInstr h sh src b) s = .next t ∧
      t = { s with
        ports := t.ports, mon := if p = .ext then observed s (fun m => m.tap .rx b true) else s.mon
        result := .none } ∧
      ∀ q, t.port q = { movedPort s p none [] q with
        rxp :=
          if q = p then
            { s.rxp p with
              phase := .header, hdr := [b], shape := sh, dest := if p = .ext then hostPort h else .ext
              crc := 0xFFFF }
          else s.rxp q
        tmo := restartedTimers s p none q }

/-- 42_framer.md R116, R117, 46_monitor.md R202: the keepalive is consumed and nothing else changes; an explicit-target
escape goes to the host it names, and without room there the step is not enabled (assumption log 4). The events of the
classes are the model's (assumption log 7). -/
def Obligations.EscapesAreRouted : Prop :=
  (∀ s : State, AtFirstByte s .ext 0xFF →
    ∃ t, exec (.coreRx .ext) s = .next t ∧ exec .keepalive s = .next t ∧
      t = { s with
        ports := t.ports
        mon := observed s (fun m => (m.tap .rx 0xFF true).endEvent .rx { origin := 0, escape := true, length := 0 } none)
        result := .none } ∧
      ∀ q, t.port q = movedPort s .ext none [] q) ∧
  ∀ (s : State) (i : Instr) (b : Byte) (h : HostPort) (o : BitVec 3),
    (i = .escH0 ∧ b = 0xF0 ∧ h = .h0 ∧ o = 1) ∨ (i = .escH1 ∧ b = 0xF1 ∧ h = .h1 ∧ o = 2) ∨
      (i = .escH2 ∧ b = 0xF2 ∧ h = .h2 ∧ o = 4) →
    AtFirstByte s .ext b →
    (Room s (hostPort h) 1 →
      ∃ t, exec (.coreRx .ext) s = .next t ∧ exec i s = .next t ∧
        t = { s with
          ports := t.ports
          mon := observed s (fun m => (m.tap .rx b true).endEvent .rx { origin := o, escape := true, length := 0 } none)
          result := .none } ∧
        ∀ q, t.port q = movedPort s .ext (some (hostPort h)) [b] q) ∧
    (¬ Room s (hostPort h) 1 → exec i s = .next { s with result := .notEnabled })

/-- 42_framer.md R118, R119, 60_exceptions.md R219, 46_monitor.md R202: an undefined first byte from External goes to H0
and raises PacketTypeError(EXT); one from a host goes to External, when its path is free, and raises PacketTypeError of the
host. The events of the classes are the model's (assumption log 7), and so is the result where the step is not enabled
(assumption log 4). -/
def Obligations.UndefinedBytesAreForwarded : Prop :=
  (∀ (s : State) (b : Byte), AtFirstByte s .ext b → ¬ isEscape b → s.prm.typeMap.unmapped b →
    (Room s .h0 1 →
      ∃ t, exec (.coreRx .ext) s = .next t ∧ exec (.undefinedFromExt b) s = .next t ∧
        t = { s with
          ports := t.ports, faultBitmap := s.faultBitmap ||| 0x0080, faultTime := s.now
          mon := observed s (fun m => (m.tap .rx b true).endEvent .rx { origin := 0, escape := true, length := 0 } none)
          result := .none } ∧
        ∀ q, t.port q = movedPort s .ext (some .h0) [b] q) ∧
    (¬ Room s .h0 1 → exec (.undefinedFromExt b) s = .next { s with result := .notEnabled })) ∧
  ∀ (s : State) (h : HostPort) (b : Byte), s.prm.typeMap.Wf → AtFirstByte s (hostPort h) b →
    (∀ sh, ¬ s.prm.typeMap.maps b h sh) →
    (s.extOwner = none → Room s .ext 1 →
      ∃ t, exec (.coreRx (hostPort h)) s = .next t ∧ exec (.undefinedFromHost h b) s = .next t ∧
        t = { s with
          ports := t.ports, faultBitmap := s.faultBitmap ||| (1 <<< (4 + portNum (hostPort h))), faultTime := s.now
          mon := observed s (fun m => (m.tap .tx b true).endEvent .tx
            { origin := 1 <<< portNum (hostPort h), escape := true, length := 0 } none)
          result := .none } ∧
        ∀ q, t.port q = movedPort s (hostPort h) (some .ext) [b] q) ∧
    (s.extOwner ≠ none ∨ ¬ Room s .ext 1 →
      exec (.undefinedFromHost h b) s = .next { s with result := .notEnabled })

/-- 42_framer.md R121, case not last, 46_monitor.md R202: a header byte is held. -/
def Obligations.HeaderBytesAreHeld : Prop :=
  ∀ (s : State) (p : Port) (b : Byte), AtByte s p b → (s.rxp p).phase = .header →
    (s.rxp p).hdr.length + 1 < hdrLen (s.rxp p).shape →
    ∃ t, exec (.coreRx p) s = .next t ∧
      t = { s with
        ports := t.ports, mon := if p = .ext then observed s (fun m => m.tap .rx b false) else s.mon
        result := .none } ∧
      ∀ q, t.port q = { movedPort s p none [] q with
        rxp := if q = p then { s.rxp p with hdr := (s.rxp p).hdr ++ [b] } else s.rxp q
        tmo := restartedTimers s p none q }

/-- 42_framer.md R121, case last, R123, R129, 30_encoding.md R61, R62, 46_monitor.md R202: the length of a header of each
shape and the payload length it encodes; the whole header is written to the destination, the path
gets its owner, and the parser goes on to the payload, to the trailer or, for a frame from External that has neither, to
its end; without room or with the path taken the step is not enabled (assumption log 4). That the monitor latches the payload
length only while capture is on is the model's choice (assumption log 9). -/
def Obligations.CompleteHeadersAreForwarded : Prop :=
  (hdrLen .a = 5 ∧ hdrLen .b = 4 ∧ hdrLen .c = 6 ∧
    (∀ b0 b1 b2 b3 b4 : Byte, payloadLength .a [b0, b1, b2, b3, b4] = b3.toNat) ∧
    (∀ b0 b1 b2 b3 : Byte, payloadLength .b [b0, b1, b2, b3] = b2.toNat) ∧
    ∀ b0 b1 b2 b3 b4 b5 : Byte, payloadLength .c [b0, b1, b2, b3, b4, b5] = b3.toNat + 256 * b4.toNat) ∧
  ∀ (s : State) (p d : Port) (b : Byte) (l : List Byte) (n : Nat), AtByte s p b → (s.rxp p).phase = .header →
    (s.rxp p).hdr.length + 1 = hdrLen (s.rxp p).shape → (s.rxp p).dest = d → (s.rxp p).hdr ++ [b] = l →
    payloadLength (s.rxp p).shape l = n →
    (Room s d (hdrLen (s.rxp p).shape) → (d = .ext → s.extOwner = none) →
      ∃ t, exec (.coreRx p) s = .next t ∧
        t = { s with
          ports := t.ports, extOwner := if d = .ext then asHost p else s.extOwner, mon := t.mon, result := .none } ∧
        (1 ≤ n ∨ p ≠ .ext ∨ s.prm.extRxCrc = true →
          t.mon = observed s (fun m =>
            if p = .ext then (m.tap .rx b false).latched .rx n else (m.tapList .tx true l).latched .tx n) ∧
          ∀ q, t.port q = { movedPort s p (some d) l q with
            rxp :=
              if q = p then
                { s.rxp p with
                  phase := if 1 ≤ n then .payload else .crc, hdr := [], crc := crc16 l, remain := n }
              else s.rxp q
            tmo := restartedTimers s p (some d) q }) ∧
        (n = 0 ∧ p = .ext ∧ s.prm.extRxCrc = false →
          t.mon = observed s (fun m => ((m.tap .rx b false).latched .rx 0).endEvent .rx
            { origin := oneHot d, escape := false, length := 0 } none) ∧
          ∀ q, t.port q = { movedPort s p (some d) l q with
            rxp :=
              if q = p then
                { s.rxp p with phase := .boundary, hdr := [], trailer := [], crc := 0xFFFF, remain := 0 }
              else s.rxp q
            tmo := completedTimers s p d q })) ∧
    (¬ Room s d (hdrLen (s.rxp p).shape) ∨ (d = .ext ∧ s.extOwner ≠ none) →
      exec (.coreRx p) s = .next { s with result := .notEnabled })

/-- 42_framer.md R122, R123, R129, 46_monitor.md R202: a payload byte is forwarded and enters the CRC; the last one takes
the parser to the trailer or, for a frame from External without one, to its end; without room the step is not
enabled (assumption log 4). -/
def Obligations.PayloadBytesAreForwarded : Prop :=
  ∀ (s : State) (p d : Port) (b : Byte), AtByte s p b → (s.rxp p).phase = .payload → 1 ≤ (s.rxp p).remain →
    (s.rxp p).dest = d →
    (Room s d 1 →
      ∃ t, exec (.coreRx p) s = .next t ∧ t = { s with ports := t.ports, mon := t.mon, extOwner := s.extOwner, result := .none } ∧
        (2 ≤ (s.rxp p).remain ∨ p ≠ .ext ∨ s.prm.extRxCrc = true →
          t.mon = observed s (fun m => m.tap (if p = .ext then .rx else .tx) b false) ∧
          ∀ q, t.port q = { movedPort s p (some d) [b] q with
            rxp :=
              if q = p then
                { s.rxp p with
                  phase := if 2 ≤ (s.rxp p).remain then .payload else .crc
                  crc := crcUpdate (s.rxp p).crc b, remain := (s.rxp p).remain - 1 }
              else s.rxp q
            tmo := restartedTimers s p (some d) q }) ∧
        ((s.rxp p).remain = 1 ∧ p = .ext ∧ s.prm.extRxCrc = false →
          t.mon = observed s (fun m => (m.tap .rx b false).frameEnded .rx (oneHot d) none) ∧
          ∀ q, t.port q = { movedPort s p (some d) [b] q with
            rxp :=
              if q = p then
                { s.rxp p with phase := .boundary, hdr := [], trailer := [], crc := 0xFFFF, remain := 0 }
              else s.rxp q
            tmo := completedTimers s p d q })) ∧
    (¬ Room s d 1 → exec (.coreRx p) s = .next { s with result := .notEnabled })

/-- 42_framer.md R124, R129, 41_crc.md R108, 46_monitor.md R202: the trailer of a host's frame is generated without taking a
byte, low byte first, and the frame is complete; without room for both bytes the step is not enabled (assumption log 4). -/
def Obligations.TrailersAreGeneratedForHosts : Prop :=
  ∀ (s : State) (h : HostPort) (p : Port) (c : Word16), p = hostPort h → s.pgState ≠ .idle → s.bypassMode = false →
    (s.rxp p).phase = .crc → (s.rxp p).dest = .ext → (s.rxp p).crc = c →
    (Room s .ext 2 →
      ∃ t, exec (.coreRx p) s = .next t ∧
        t = { s with
          ports := t.ports, extOwner := none
          mon := observed s (fun m =>
            (m.tapList .tx false [c.extractLsb' 0 8, c.extractLsb' 8 8]).frameEnded .tx (1 <<< portNum p) (some c))
          result := .none } ∧
        ∀ q, t.port q = { s.port q with
          txFifo := if q = .ext then s.txFifo q ++ [c.extractLsb' 0 8, c.extractLsb' 8 8] else s.txFifo q
          rxp :=
            if q = p then
              { s.rxp p with phase := .boundary, hdr := [], trailer := [], crc := 0xFFFF, remain := 0 }
            else s.rxp q
          tmo := completedTimers s p .ext q }) ∧
    (¬ Room s .ext 2 → exec (.coreRx p) s = .next { s with result := .notEnabled })

/-- 42_framer.md R125 to R127, R129, 41_crc.md R108, 60_exceptions.md R219, 46_monitor.md R202: the trailer of a frame from
External is taken and not forwarded; its second byte completes the frame, and a mismatch counts and raises CRCError of the
addressee. -/
def Obligations.TrailersFromExternalAreChecked : Prop :=
  ∀ (s : State) (h : HostPort) (b : Byte), AtByte s .ext b → (s.rxp .ext).phase = .crc →
    (s.rxp .ext).dest = hostPort h →
    ((s.rxp .ext).trailer = [] →
      ∃ t, exec (.coreRx .ext) s = .next t ∧
        t = { s with ports := t.ports, mon := observed s (fun m => m.tap .rx b false), result := .none } ∧
        ∀ q, t.port q = { movedPort s .ext none [] q with
          rxp := if q = .ext then { s.rxp .ext with trailer := [b] } else s.rxp q
          tmo := restartedTimers s .ext (some (hostPort h)) q }) ∧
    (∀ b0, (s.rxp .ext).trailer = [b0] →
      ∃ t, exec (.coreRx .ext) s = .next t ∧
        t = { s with
          ports := t.ports
          faultBitmap :=
            if b0.toNat + 256 * b.toNat = (s.rxp .ext).crc.toNat then s.faultBitmap
            else s.faultBitmap ||| (1 <<< portNum (hostPort h))
          faultTime := if b0.toNat + 256 * b.toNat = (s.rxp .ext).crc.toNat then s.faultTime else s.now
          mon := observed s (fun m =>
            (m.tap .rx b false).frameEnded .rx (1 <<< portNum (hostPort h)) (some (b ++ b0)))
          result := .none } ∧
        ∀ q, t.port q = { movedPort s .ext none [] q with
          crcErrCount :=
            if q = hostPort h ∧ b0.toNat + 256 * b.toNat ≠ (s.rxp .ext).crc.toNat then
              s.inc (s.port q).crcErrCount
            else (s.port q).crcErrCount
          rxp :=
            if q = .ext then
              { s.rxp .ext with phase := .boundary, hdr := [], trailer := [], crc := 0xFFFF, remain := 0 }
            else s.rxp q
          tmo := completedTimers s .ext (hostPort h) q })

/-- 42_framer.md R131: in bypass the streams of H0 and External are joined byte by byte, and those of H1 and H2 stand
(what a step that is not enabled leaves: assumption log 4). -/
def Obligations.BypassJoinsHostZeroAndExternal : Prop :=
  ∀ (s : State) (p q : Port) (b : Byte), s.pgState ≠ .idle → s.bypassMode = true →
    (p = .h0 ∧ q = .ext) ∨ (p = .ext ∧ q = .h0) →
    ((s.rxFifo p).head? = some b → Room s q 1 →
      ∃ t, exec (.coreRx p) s = .next t ∧ t = { s with ports := t.ports, result := .none } ∧
        ∀ r, t.port r = movedPort s p (some q) [b] r) ∧
    (s.rxFifo p = [] ∨ ¬ Room s q 1 → exec (.coreRx p) s = .next { s with result := .notEnabled }) ∧
    exec (.coreRx .h1) s = .next { s with result := .notEnabled } ∧
    exec (.coreRx .h2) s = .next { s with result := .notEnabled }

/-- 42_framer.md R130, R132: SET_BYPASS. Switching the mode resets every parser and frees the path; setting the mode it
already has changes nothing. -/
def Obligations.SetBypassResetsTheParsers : Prop :=
  ∀ (s : State) (en : Bool),
    (en = s.bypassMode → exec (.setBypass en) s = .next { s with result := .ok }) ∧
    (en ≠ s.bypassMode →
      ∃ t, exec (.setBypass en) s = .next t ∧
        t = { s with ports := t.ports, extOwner := none, bypassMode := en, result := .ok } ∧
        ∀ q, t.port q = { s.port q with
          rxp := { s.rxp q with phase := .boundary, hdr := [], trailer := [], remain := 0, crc := 0xFFFF }
          tmo :=
            { tx := { s.tmo q .tx with
                timer :=
                  if (q = .ext ∧ s.extOwner ≠ none) ∨ (Delivering (s.rxp .ext) ∧ (s.rxp .ext).dest = q) then 0
                  else s.timer q .tx }
              rx := { s.tmo q .rx with timer := 0 } } })

/-- 42_framer.md R132, R133: RESET_PORT empties the port's FIFOs, clears its XOFF flags, resets its parser and frees the
path it held; nothing else of this port or of another changes. -/
def Obligations.ResetPortDropsOnePort : Prop :=
  ∀ (s : State) (p : Port),
    ∃ t, exec (.resetPort p) s = .next t ∧
      t = { s with
        ports := t.ports
        extOwner := if s.extOwner ≠ none ∧ s.extOwner = asHost p then none else s.extOwner
        result := .ok } ∧
      ∀ q, t.port q = { s.port q with
        txFifo := if q = p then [] else s.txFifo q
        rxFifo := if q = p then [] else s.rxFifo q
        xoffAsserted := if q = p then false else (s.port q).xoffAsserted
        xoffDetected := if q = p then false else (s.port q).xoffDetected
        sleepReq := if q = p then false else (s.port q).sleepReq
        rxp :=
          if q = p then { s.rxp p with phase := .boundary, hdr := [], trailer := [], remain := 0, crc := 0xFFFF }
          else s.rxp q
        tmo :=
          { tx := { s.tmo q .tx with
              timer :=
                if (q = .ext ∧ s.extOwner ≠ none ∧ s.extOwner = asHost p) ∨
                    (p = .ext ∧ Delivering (s.rxp .ext) ∧ (s.rxp .ext).dest = q) then 0
                else s.timer q .tx }
            rx := { s.tmo q .rx with timer := if q = p then 0 else s.timer q .rx } } }

/-- 42_framer.md R120, 20_memory.md R49 (b): while a host's frame holds External's path no other step of the hub core
writes to it, and only the frame's end, a reset of its port, a switch of the mode or a tick ends the ownership. -/
def Obligations.OwnedPathIsExclusive : Prop :=
  ∀ (s t : State) (i : Instr) (h : HostPort), FrameInv s → s.extOwner = some h → exec i s = .next t →
    (∀ p, p ≠ hostPort h → i = .coreRx p → t.txFifo .ext = s.txFifo .ext) ∧
    (t.extOwner = some h ∨
      (t.extOwner = none ∧
        ((i = .coreRx (hostPort h) ∧ (s.rxp (hostPort h)).phase = .crc) ∨ i = .resetPort (hostPort h) ∨
          (∃ en, i = .setBypass en) ∨ ∃ a, i = .tick a)))

/-- 42_framer.md R134, first half, for a frame that the TX FIFO of External has room for: a frame sent by a host reaches
External's TX FIFO whole and contiguous, with the CRC trailer of 41_crc.md R109. -/
def Obligations.FramesFromAHostAreSealed : Prop :=
  ∀ (s : State) (h : HostPort) (l : List Byte), s.prm.Wf → s.pgState ≠ .idle → s.bypassMode = false →
    (s.rxp (hostPort h)).phase = .boundary → s.rxFifo (hostPort h) = [] → s.extOwner = none →
    IsFrame s.prm.typeMap h l → Room s .ext (l.length + 2) →
    ∃ t, runEvents (frameEvents (hostPort h) l ++ [.coreRx (hostPort h)]) s = some t ∧
      t.txFifo .ext = s.txFifo .ext ++ frameWithCrc l ∧ t.rxFifo (hostPort h) = [] ∧
      (t.rxp (hostPort h)).phase = .boundary ∧ t.extOwner = none ∧ t.faultBitmap = s.faultBitmap ∧
      (t.tmo (hostPort h) .rx).packetCount = s.inc (s.tmo (hostPort h) .rx).packetCount ∧
      (t.tmo .ext .tx).packetCount = s.inc (s.tmo .ext .tx).packetCount

/-- 42_framer.md R134, second half, R126, R127, for a frame that the addressee's TX FIFO has room for: a frame from
External with a trailer is delivered to its host without it, and CRCError is raised exactly if the trailer is not the one
the generator writes. -/
def Obligations.FramesFromExternalAreDelivered : Prop :=
  ∀ (s : State) (h : HostPort) (l : List Byte) (t0 t1 : Byte), s.prm.Wf → s.prm.extRxCrc = true → s.pgState ≠ .idle →
    s.bypassMode = false → ParserInv s .ext → (s.rxp .ext).phase = .boundary → s.rxFifo .ext = [] →
    IsFrame s.prm.typeMap h l → Room s (hostPort h) l.length →
    ∃ t, runEvents (frameEvents .ext (l ++ [t0, t1])) s = some t ∧
      t.txFifo (hostPort h) = s.txFifo (hostPort h) ++ l ∧ t.rxFifo .ext = [] ∧ (t.rxp .ext).phase = .boundary ∧
      (l ++ [t0, t1] = frameWithCrc l →
        t.faultBitmap = s.faultBitmap ∧ (t.port (hostPort h)).crcErrCount = (s.port (hostPort h)).crcErrCount) ∧
      (l ++ [t0, t1] ≠ frameWithCrc l →
        t.faultBitmap = s.faultBitmap ||| (1 <<< portNum (hostPort h)) ∧
        (t.port (hostPort h)).crcErrCount = s.inc (s.port (hostPort h)).crcErrCount)

/-- 42_framer.md R135: with EXT_RX_CRC false no event raises CRCError and no CRC error is ever counted. -/
def Obligations.NoCrcErrorsWithoutTrailers : Prop :=
  ∀ (s t : State) (i : Instr) (p : Port), FrameInv s → s.prm.extRxCrc = false → exec i s = .next t →
    (t.port p).crcErrCount = (s.port p).crcErrCount ∧
    (t.faultBitmap.getLsbD (faultBit .crcError p) = true → s.faultBitmap.getLsbD (faultBit .crcError p) = true)

/-! ## The CRC -/

/-- 41_crc.md R110, R111: the checker accepts what the generator appends, rejects it after any change of one byte, and each
byte step permutes the register. -/
def Obligations.CrcRoundTripAndDetection : Prop :=
  (∀ l : List Byte, ∃ t0 t1, crcTrailer (crc16 l) = [t0, t1] ∧ checkCrc l t0 t1 = true) ∧
  (∀ (l : List Byte) (n : Nat) (x t0 t1 : Byte), n < l.length → l[n]? ≠ some x → crcTrailer (crc16 l) = [t0, t1] →
    crc16 (l.set n x) ≠ crc16 l ∧ checkCrc (l.set n x) t0 t1 = false) ∧
  ∀ b : Byte, Function.Bijective fun c : Word16 => crcUpdate c b

/-- 41_crc.md R112, R106: the worked example, byte by byte, and the CRC of the empty list. -/
def Obligations.CrcWorkedExample : Prop :=
  ((List.range 8).map fun n => crc16 ([0x02, 0x00, 0x00, 0x03, 0x00, 0x66, 0x67, 0x68].take (n + 1))) =
    [0xC1B2, 0x7B6D, 0xA2FC, 0x59CB, 0x00DC, 0xD060, 0xB73C, 0x0692] ∧
  frameWithCrc [0x02, 0x00, 0x00, 0x03, 0x00, 0x66, 0x67, 0x68] =
    [0x02, 0x00, 0x00, 0x03, 0x00, 0x66, 0x67, 0x68, 0x92, 0x06] ∧
  crc16 [] = 0xFFFF

/-! ## The monitor -/

/-- 46_monitor.md R200, R201, R208: MON_ENABLE and MON_CONFIG. `MonDir.cleared` is what R208 writes. -/
def Obligations.MonitorControl : Prop :=
  (∀ s : State,
    (s.mon.monEnabled = false →
      exec (.monEnable true) s = .next { s with
        mon := { s.mon with monEnabled := true, dirs := ⟨MonDir.cleared, MonDir.cleared⟩ }, result := .ok }) ∧
    (s.mon.monEnabled = true → exec (.monEnable true) s = .next { s with result := .ok }) ∧
    exec (.monEnable false) s = .next { s with mon := { s.mon with monEnabled := false }, result := .ok }) ∧
  (∀ (s : State) (k : BitVec 2) (md : MonMode) (rolling mirror : Bool),
    (k = 0 ∧ md = .packetInfo) ∨ (k = 1 ∧ md = .checkData) ∨ (k = 2 ∧ md = .crcResult) →
    exec (.monConfig k rolling mirror) s = .next { s with
      mon := { s.mon with
        monMode := md, monRolling := rolling, monMirror := mirror
        dirs := if md = s.mon.monMode then s.mon.dirs else ⟨MonDir.cleared, MonDir.cleared⟩ }
      result := .ok }) ∧
  (∀ (s : State) (rolling mirror : Bool),
    exec (.monConfig 3 rolling mirror) s = .next { s with result := .err .invalidArg }) ∧
  (∀ i : Fin 4, MonDir.cleared.pktInfo[i] = { origin := 0, escape := false, length := 0 }) ∧
  (∀ i : Fin 16, MonDir.cleared.chk[i] = 0) ∧ (∀ i : Fin 8, MonDir.cleared.crcRes[i] = 0) ∧
  MonDir.cleared.pktInfoWr = 0 ∧ MonDir.cleared.chkWr = 0 ∧ MonDir.cleared.crcResWr = 0 ∧
  MonDir.cleared.monCnt = 0 ∧ MonDir.cleared.monLen = 0

/-- 46_monitor.md R207: MON_READ answers the slot, the byte or the write pointer of the current mode, or an error for an
index out of range, and changes no state. A direction of none or Both is the clause of 30_encoding.md R76 (assumption
log 6). -/
def Obligations.MonReadAnswersTheSlot : Prop :=
  ∀ (s : State) (i : BitVec 4) (sel : Bool),
    (∀ f, f = .none ∨ f = .both → exec (.monRead f sel i) s = .next { s with result := .err .invalidDirection }) ∧
    ∀ f d, (f = .tx ∧ d = .tx) ∨ (f = .rx ∧ d = .rx) →
      (i ≠ 0 → exec (.monRead f true i) s = .next { s with result := .err .invalidArg }) ∧
      (s.mon.monMode = .packetInfo →
        exec (.monRead f true 0) s =
          .next { s with result := .okValue (BitVec.ofNat 32 (s.mon.dirs.get d).pktInfoWr.val) } ∧
        (∀ k : Fin 4, k.val = i.toNat → ∃ v,
          exec (.monRead f false i) s = .next { s with result := .okValue v } ∧
          v.toNat = (s.mon.dirs.get d).pktInfo[k].length.toNat +
            2 ^ 16 * (if (s.mon.dirs.get d).pktInfo[k].escape then 1 else 0) +
            2 ^ 17 * (s.mon.dirs.get d).pktInfo[k].origin.toNat) ∧
        (3 < i.toNat → exec (.monRead f false i) s = .next { s with result := .err .invalidArg })) ∧
      (s.mon.monMode = .checkData →
        exec (.monRead f true 0) s =
          .next { s with result := .okValue (BitVec.ofNat 32 (s.mon.dirs.get d).chkWr.val) } ∧
        ∀ k : Fin 16, k.val = i.toNat →
          exec (.monRead f false i) s =
            .next { s with result := .okValue ((s.mon.dirs.get d).chk[k].setWidth 32) }) ∧
      (s.mon.monMode = .crcResult →
        exec (.monRead f true 0) s =
          .next { s with result := .okValue (BitVec.ofNat 32 (s.mon.dirs.get d).crcResWr.val) } ∧
        (∀ k : Fin 8, k.val = i.toNat →
          exec (.monRead f false i) s =
            .next { s with result := .okValue ((s.mon.dirs.get d).crcRes[k].setWidth 32) }) ∧
        (7 < i.toNat → exec (.monRead f false i) s = .next { s with result := .err .invalidArg }))

/-- 46_monitor.md R203, R204, R205: what a tap and the end of an event write in each of the three modes. -/
def Obligations.MonitorCapturesByMode : Prop :=
  ∀ (m : Monitor) (d : Dir) (b : Byte) (first : Bool) (r : PktInfo) (crc : Option Word16),
    (m.monMode ≠ .checkData → m.tap d b first = m) ∧
    (m.monMode = .checkData → m.endEvent d r crc = m ∧
      ∃ cnt wr, cnt = (if first then 0 else (m.dirs.get d).monCnt) ∧
        wr = (if first = true ∧ m.monRolling = false then 0 else (m.dirs.get d).chkWr) ∧
        m.tap d b first = { m with
          dirs := m.dirs.set d
            (if cnt < 16 then
              { m.dirs.get d with chk := (m.dirs.get d).chk.set wr b, chkWr := wr + 1, monCnt := cnt + 1 }
            else { m.dirs.get d with chkWr := wr, monCnt := cnt }) }) ∧
    (m.monMode = .packetInfo →
      m.endEvent d r crc = { m with
        dirs := m.dirs.set d { m.dirs.get d with
          pktInfo := (m.dirs.get d).pktInfo.set (m.dirs.get d).pktInfoWr r
          pktInfoWr := (m.dirs.get d).pktInfoWr + 1 } }) ∧
    (m.monMode = .crcResult →
      (crc = none → m.endEvent d r crc = m) ∧
      ∀ c, crc = some c →
        m.endEvent d r crc = { m with
          dirs :=
            { tx :=
                if d = .tx ∨ m.monMirror = true then
                  { m.dirs.tx with
                    crcRes := m.dirs.tx.crcRes.set m.dirs.tx.crcResWr c, crcResWr := m.dirs.tx.crcResWr + 1 }
                else m.dirs.tx
              rx :=
                if d = .rx then
                  { m.dirs.rx with
                    crcRes := m.dirs.rx.crcRes.set m.dirs.rx.crcResWr c, crcResWr := m.dirs.rx.crcResWr + 1 }
                else m.dirs.rx } })

/-- 46_monitor.md R206: the monitor is only watched: whatever it holds, every event but MON_READ gives the same rest of the
state and the same result, with capture or without. -/
def Obligations.MonitorNeverInterferes : Prop :=
  ∀ (i : Instr) (s t : State) (m : Monitor), (∀ f sel k, i ≠ .monRead f sel k) → exec i s = .next t →
    ∃ u, exec i { s with mon := m } = .next u ∧ { u with mon := t.mon } = t

end
end

