-- ==== Sys2Proof/Laws/Decode.lean ====
section
/-!
SUPPORT. The first-byte map: what looking a byte up in TYPE_MAP answers, in terms of the ranges (30_encoding.md R66).
-/

namespace Sys2Proof

/-- A range gives a shape exactly to the bytes it holds. -/
theorem TypeRange.shapeOf_eq_some {r : TypeRange} {n : Nat} {sh : Shape} :
    r.shapeOf n = some sh ↔ r.has n ∧ r.shapes[n - r.first]? = some sh := by
  unfold TypeRange.shapeOf TypeRange.has TypeRange.stop
  constructor
  · intro h
    split at h
    next hf =>
      obtain ⟨hl, -⟩ := List.getElem?_eq_some_iff.mp h
      exact ⟨⟨hf, by omega⟩, h⟩
    next => cases h
  · rintro ⟨⟨hf, -⟩, h⟩
    rw [if_pos hf, h]

theorem TypeRange.shapeOf_eq_none {r : TypeRange} {n : Nat} : r.shapeOf n = none ↔ ¬ r.has n := by
  unfold TypeRange.shapeOf TypeRange.has TypeRange.stop
  split
  next hf => rw [List.getElem?_eq_none_iff]; omega
  next hf => exact ⟨fun _ h => hf h.1, fun _ => rfl⟩

/-- A byte of one range is in no other (30_encoding.md R66 (a)). -/
theorem TypeMap.has_unique {m : TypeMap} (hm : m.Wf) {n : Nat} {h g : HostPort} (hh : (m.get h).has n)
    (hg : (m.get g).has n) : h = g := by
  obtain ⟨-, -, ⟨h01, h02, h12⟩, -⟩ := hm
  unfold TypeRange.apart at h01 h02 h12
  cases h <;> cases g <;> simp only [PerHost.get, TypeRange.has] at hh hg <;> first | rfl | omega

/-- TYPE_MAP(b) is the host and the shape of the byte (30_encoding.md R66). -/
theorem TypeMap.lookup_eq_some {m : TypeMap} (hm : m.Wf) {b : Byte} {h : HostPort} {sh : Shape} :
    m.lookup b = some (h, sh) ↔ m.maps b h sh := by
  have key : ∀ g s', (m.get g).shapeOf b.toNat = some s' ↔ m.maps b g s' := fun g s' => TypeRange.shapeOf_eq_some
  have k0 := key .h0
  have k1 := key .h1
  have k2 := key .h2
  simp only [PerHost.get] at k0 k1 k2
  unfold TypeMap.lookup
  constructor
  · intro e
    cases e0 : m.h0.shapeOf b.toNat with
    | some x => simp only [e0, Option.some.injEq, Prod.mk.injEq] at e; obtain ⟨rfl, rfl⟩ := e; exact (k0 _).mp e0
    | none =>
      cases e1 : m.h1.shapeOf b.toNat with
      | some x => simp only [e0, e1, Option.some.injEq, Prod.mk.injEq] at e; obtain ⟨rfl, rfl⟩ := e; exact (k1 _).mp e1
      | none =>
        cases e2 : m.h2.shapeOf b.toNat with
        | some x =>
          simp only [e0, e1, e2, Option.some.injEq, Prod.mk.injEq] at e; obtain ⟨rfl, rfl⟩ := e; exact (k2 _).mp e2
        | none => simp [e0, e1, e2] at e
  · intro hb
    have none_of : ∀ g, g ≠ h → (m.get g).shapeOf b.toNat = none := fun g hg =>
      TypeRange.shapeOf_eq_none.mpr fun hg' => hg (TypeMap.has_unique hm hg' hb.1)
    cases h with
    | h0 => rw [(k0 sh).mpr hb]
    | h1 => have e0 := none_of .h0 (by decide); simp only [PerHost.get] at e0; rw [e0, (k1 sh).mpr hb]
    | h2 =>
      have e0 := none_of .h0 (by decide)
      have e1 := none_of .h1 (by decide)
      simp only [PerHost.get] at e0 e1
      rw [e0, e1, (k2 sh).mpr hb]

/-- A byte in no range has no entry (30_encoding.md R66). -/
theorem TypeMap.lookup_eq_none {m : TypeMap} {b : Byte} : m.lookup b = none ↔ m.unmapped b := by
  unfold TypeMap.lookup TypeMap.unmapped
  rw [← TypeRange.shapeOf_eq_none, ← TypeRange.shapeOf_eq_none, ← TypeRange.shapeOf_eq_none]
  cases m.h0.shapeOf b.toNat <;> cases m.h1.shapeOf b.toNat <;> cases m.h2.shapeOf b.toNat <;> simp

/-- A mapped byte is no escape (30_encoding.md R66 (b)). -/
theorem TypeMap.not_escape {m : TypeMap} (hm : m.Wf) {b : Byte} {h : HostPort} {sh : Shape} (hb : m.maps b h sh) :
    ¬ isEscape b := by
  obtain ⟨-, -, -, hesc, -⟩ := hm
  intro he
  have hn : b.toNat ∈ [0xF0, 0xF1, 0xF2, 0xFF] := by rcases he with rfl | rfl | rfl | rfl <;> decide
  obtain ⟨a0, a1, a2⟩ := hesc _ hn
  cases h
  · exact a0 hb.1
  · exact a1 hb.1
  · exact a2 hb.1

end Sys2Proof
end

