-- ==== Sys2Proof/Laws/State.lean ====
section
/-!
SUPPORT. What reading a field gives after an update: one lemma for each field and each update of the state, and the laws
of the records indexed by port, host and direction, so that no later proof unfolds a record update.
-/

namespace Sys2Proof

/-! ## Records indexed by port, host and direction -/

theorem PerPort.get_set {α : Type} (v : PerPort α) (p r : Port) (x : α) :
    (v.set p x).get r = if r = p then x else v.get r := by
  cases p <;> cases r <;> rfl

@[simp] theorem PerPort.get_set_self {α : Type} (v : PerPort α) (p : Port) (x : α) : (v.set p x).get p = x := by
  cases p <;> rfl

@[simp] theorem PerPort.set_get_self {α : Type} (v : PerPort α) (p : Port) : v.set p (v.get p) = v := by
  cases p <;> rfl

@[simp] theorem PerPort.set_set {α : Type} (v : PerPort α) (p : Port) (x y : α) : (v.set p x).set p y = v.set p y := by
  cases p <;> rfl

theorem PerPort.ext_get {α : Type} {v u : PerPort α} (h : ∀ p, v.get p = u.get p) : v = u := by
  obtain ⟨a, b, c, d⟩ := v
  obtain ⟨a', b', c', d'⟩ := u
  have h0 := h .h0
  have h1 := h .h1
  have h2 := h .h2
  have h3 := h .ext
  simp only [PerPort.get] at h0 h1 h2 h3
  rw [h0, h1, h2, h3]

@[simp] theorem PerPort.get_all {α : Type} (x : α) (p : Port) : (PerPort.all x).get p = x := by cases p <;> rfl

theorem PerHost.get_set {α : Type} (v : PerHost α) (h r : HostPort) (x : α) :
    (v.set h x).get r = if r = h then x else v.get r := by
  cases h <;> cases r <;> rfl

@[simp] theorem PerHost.get_set_self {α : Type} (v : PerHost α) (h : HostPort) (x : α) : (v.set h x).get h = x := by
  cases h <;> rfl

@[simp] theorem PerHost.get_all {α : Type} (x : α) (h : HostPort) : (PerHost.all x).get h = x := by cases h <;> rfl

theorem PerHost.ext_get {α : Type} {v u : PerHost α} (h : ∀ p, v.get p = u.get p) : v = u := by
  obtain ⟨a, b, c⟩ := v
  obtain ⟨a', b', c'⟩ := u
  have h0 := h .h0
  have h1 := h .h1
  have h2 := h .h2
  simp only [PerHost.get] at h0 h1 h2
  rw [h0, h1, h2]

theorem PerDir.get_set {α : Type} (v : PerDir α) (d r : Dir) (x : α) :
    (v.set d x).get r = if r = d then x else v.get r := by
  cases d <;> cases r <;> rfl

@[simp] theorem PerDir.get_set_self {α : Type} (v : PerDir α) (d : Dir) (x : α) : (v.set d x).get d = x := by
  cases d <;> rfl

@[simp] theorem PerDir.get_tx {α : Type} (v : PerDir α) : v.get .tx = v.tx := rfl
@[simp] theorem PerDir.get_rx {α : Type} (v : PerDir α) : v.get .rx = v.rx := rfl
@[simp] theorem PerDir.set_tx {α : Type} (v : PerDir α) (x : α) : v.set .tx x = { v with tx := x } := rfl
@[simp] theorem PerDir.set_rx {α : Type} (v : PerDir α) (x : α) : v.set .rx x = { v with rx := x } := rfl
@[simp] theorem PerDir.get_all {α : Type} (x : α) (d : Dir) : (PerDir.all x).get d = x := by cases d <;> rfl

theorem PerDir.ext_get {α : Type} {v u : PerDir α} (h : ∀ d, v.get d = u.get d) : v = u := by
  obtain ⟨a, b⟩ := v
  obtain ⟨a', b'⟩ := u
  have h0 := h .tx
  have h1 := h .rx
  simp only [PerDir.get] at h0 h1
  rw [h0, h1]

end Sys2Proof

namespace Sys2Proof.Machine

/-! ## The record of one port -/

theorem State.port_setPort (s : State) (p r : Port) (q : PortState) :
    (s.setPort p q).port r = if r = p then q else s.port r :=
  PerPort.get_set s.ports p r q

@[simp] theorem State.port_setPort_self (s : State) (p : Port) (q : PortState) : (s.setPort p q).port p = q :=
  PerPort.get_set_self s.ports p q

theorem State.port_setPort_ne (s : State) {p r : Port} (q : PortState) (h : r ≠ p) : (s.setPort p q).port r = s.port r := by
  rw [State.port_setPort, if_neg h]

@[simp] theorem State.setPort_setPort (s : State) (p : Port) (q q' : PortState) :
    (s.setPort p q).setPort p q' = s.setPort p q' := by
  simp [State.setPort]

@[simp] theorem State.setPort_port (s : State) (p : Port) : s.setPort p (s.port p) = s := by
  simp [State.setPort, State.port]

/-- Two states with the same ports and the same other fields are the same. -/
theorem State.ext_ports {s t : State} (hp : ∀ p, s.port p = t.port p) (h : { s with ports := t.ports } = t) : s = t := by
  have e : s.ports = t.ports := PerPort.ext_get hp
  rw [← h, ← e]

/-! ## State.setPort: a port only -/

@[simp] theorem State.setPort_prm (s : State) (p : Port) (q : PortState) : (s.setPort p q).prm = s.prm := rfl
@[simp] theorem State.setPort_schedule (s : State) (p : Port) (q : PortState) : (s.setPort p q).schedule = s.schedule := rfl
@[simp] theorem State.setPort_result (s : State) (p : Port) (q : PortState) : (s.setPort p q).result = s.result := rfl
@[simp] theorem State.setPort_extOwner (s : State) (p : Port) (q : PortState) : (s.setPort p q).extOwner = s.extOwner := rfl
@[simp] theorem State.setPort_bypassMode (s : State) (p : Port) (q : PortState) : (s.setPort p q).bypassMode = s.bypassMode := rfl
@[simp] theorem State.setPort_pg (s : State) (p : Port) (q : PortState) : (s.setPort p q).pg = s.pg := rfl
@[simp] theorem State.setPort_xoffPollCount (s : State) (p : Port) (q : PortState) : (s.setPort p q).xoffPollCount = s.xoffPollCount := rfl
@[simp] theorem State.setPort_now (s : State) (p : Port) (q : PortState) : (s.setPort p q).now = s.now := rfl
@[simp] theorem State.setPort_faultBitmap (s : State) (p : Port) (q : PortState) : (s.setPort p q).faultBitmap = s.faultBitmap := rfl
@[simp] theorem State.setPort_faultTime (s : State) (p : Port) (q : PortState) : (s.setPort p q).faultTime = s.faultTime := rfl
@[simp] theorem State.setPort_irqMasked (s : State) (p : Port) (q : PortState) : (s.setPort p q).irqMasked = s.irqMasked := rfl
@[simp] theorem State.setPort_mon (s : State) (p : Port) (q : PortState) : (s.setPort p q).mon = s.mon := rfl

/-! ## State.setTxFifo: a port only -/

@[simp] theorem State.setTxFifo_prm (s : State) (p : Port) (l : List Byte) : (s.setTxFifo p l).prm = s.prm := rfl
@[simp] theorem State.setTxFifo_schedule (s : State) (p : Port) (l : List Byte) : (s.setTxFifo p l).schedule = s.schedule := rfl
@[simp] theorem State.setTxFifo_result (s : State) (p : Port) (l : List Byte) : (s.setTxFifo p l).result = s.result := rfl
@[simp] theorem State.setTxFifo_extOwner (s : State) (p : Port) (l : List Byte) : (s.setTxFifo p l).extOwner = s.extOwner := rfl
@[simp] theorem State.setTxFifo_bypassMode (s : State) (p : Port) (l : List Byte) : (s.setTxFifo p l).bypassMode = s.bypassMode := rfl
@[simp] theorem State.setTxFifo_pg (s : State) (p : Port) (l : List Byte) : (s.setTxFifo p l).pg = s.pg := rfl
@[simp] theorem State.setTxFifo_xoffPollCount (s : State) (p : Port) (l : List Byte) : (s.setTxFifo p l).xoffPollCount = s.xoffPollCount := rfl
@[simp] theorem State.setTxFifo_now (s : State) (p : Port) (l : List Byte) : (s.setTxFifo p l).now = s.now := rfl
@[simp] theorem State.setTxFifo_faultBitmap (s : State) (p : Port) (l : List Byte) : (s.setTxFifo p l).faultBitmap = s.faultBitmap := rfl
@[simp] theorem State.setTxFifo_faultTime (s : State) (p : Port) (l : List Byte) : (s.setTxFifo p l).faultTime = s.faultTime := rfl
@[simp] theorem State.setTxFifo_irqMasked (s : State) (p : Port) (l : List Byte) : (s.setTxFifo p l).irqMasked = s.irqMasked := rfl
@[simp] theorem State.setTxFifo_mon (s : State) (p : Port) (l : List Byte) : (s.setTxFifo p l).mon = s.mon := rfl

/-! ## State.setRxFifo: a port only -/

@[simp] theorem State.setRxFifo_prm (s : State) (p : Port) (l : List Byte) : (s.setRxFifo p l).prm = s.prm := rfl
@[simp] theorem State.setRxFifo_schedule (s : State) (p : Port) (l : List Byte) : (s.setRxFifo p l).schedule = s.schedule := rfl
@[simp] theorem State.setRxFifo_result (s : State) (p : Port) (l : List Byte) : (s.setRxFifo p l).result = s.result := rfl
@[simp] theorem State.setRxFifo_extOwner (s : State) (p : Port) (l : List Byte) : (s.setRxFifo p l).extOwner = s.extOwner := rfl
@[simp] theorem State.setRxFifo_bypassMode (s : State) (p : Port) (l : List Byte) : (s.setRxFifo p l).bypassMode = s.bypassMode := rfl
@[simp] theorem State.setRxFifo_pg (s : State) (p : Port) (l : List Byte) : (s.setRxFifo p l).pg = s.pg := rfl
@[simp] theorem State.setRxFifo_xoffPollCount (s : State) (p : Port) (l : List Byte) : (s.setRxFifo p l).xoffPollCount = s.xoffPollCount := rfl
@[simp] theorem State.setRxFifo_now (s : State) (p : Port) (l : List Byte) : (s.setRxFifo p l).now = s.now := rfl
@[simp] theorem State.setRxFifo_faultBitmap (s : State) (p : Port) (l : List Byte) : (s.setRxFifo p l).faultBitmap = s.faultBitmap := rfl
@[simp] theorem State.setRxFifo_faultTime (s : State) (p : Port) (l : List Byte) : (s.setRxFifo p l).faultTime = s.faultTime := rfl
@[simp] theorem State.setRxFifo_irqMasked (s : State) (p : Port) (l : List Byte) : (s.setRxFifo p l).irqMasked = s.irqMasked := rfl
@[simp] theorem State.setRxFifo_mon (s : State) (p : Port) (l : List Byte) : (s.setRxFifo p l).mon = s.mon := rfl

/-! ## State.setParser: a port only -/

@[simp] theorem State.setParser_prm (s : State) (p : Port) (q : Parser) : (s.setParser p q).prm = s.prm := rfl
@[simp] theorem State.setParser_schedule (s : State) (p : Port) (q : Parser) : (s.setParser p q).schedule = s.schedule := rfl
@[simp] theorem State.setParser_result (s : State) (p : Port) (q : Parser) : (s.setParser p q).result = s.result := rfl
@[simp] theorem State.setParser_extOwner (s : State) (p : Port) (q : Parser) : (s.setParser p q).extOwner = s.extOwner := rfl
@[simp] theorem State.setParser_bypassMode (s : State) (p : Port) (q : Parser) : (s.setParser p q).bypassMode = s.bypassMode := rfl
@[simp] theorem State.setParser_pg (s : State) (p : Port) (q : Parser) : (s.setParser p q).pg = s.pg := rfl
@[simp] theorem State.setParser_xoffPollCount (s : State) (p : Port) (q : Parser) : (s.setParser p q).xoffPollCount = s.xoffPollCount := rfl
@[simp] theorem State.setParser_now (s : State) (p : Port) (q : Parser) : (s.setParser p q).now = s.now := rfl
@[simp] theorem State.setParser_faultBitmap (s : State) (p : Port) (q : Parser) : (s.setParser p q).faultBitmap = s.faultBitmap := rfl
@[simp] theorem State.setParser_faultTime (s : State) (p : Port) (q : Parser) : (s.setParser p q).faultTime = s.faultTime := rfl
@[simp] theorem State.setParser_irqMasked (s : State) (p : Port) (q : Parser) : (s.setParser p q).irqMasked = s.irqMasked := rfl
@[simp] theorem State.setParser_mon (s : State) (p : Port) (q : Parser) : (s.setParser p q).mon = s.mon := rfl

/-! ## State.setTmo: a port only -/

@[simp] theorem State.setTmo_prm (s : State) (p : Port) (d : Dir) (q : TimeoutRec) : (s.setTmo p d q).prm = s.prm := rfl
@[simp] theorem State.setTmo_schedule (s : State) (p : Port) (d : Dir) (q : TimeoutRec) : (s.setTmo p d q).schedule = s.schedule := rfl
@[simp] theorem State.setTmo_result (s : State) (p : Port) (d : Dir) (q : TimeoutRec) : (s.setTmo p d q).result = s.result := rfl
@[simp] theorem State.setTmo_extOwner (s : State) (p : Port) (d : Dir) (q : TimeoutRec) : (s.setTmo p d q).extOwner = s.extOwner := rfl
@[simp] theorem State.setTmo_bypassMode (s : State) (p : Port) (d : Dir) (q : TimeoutRec) : (s.setTmo p d q).bypassMode = s.bypassMode := rfl
@[simp] theorem State.setTmo_pg (s : State) (p : Port) (d : Dir) (q : TimeoutRec) : (s.setTmo p d q).pg = s.pg := rfl
@[simp] theorem State.setTmo_xoffPollCount (s : State) (p : Port) (d : Dir) (q : TimeoutRec) : (s.setTmo p d q).xoffPollCount = s.xoffPollCount := rfl
@[simp] theorem State.setTmo_now (s : State) (p : Port) (d : Dir) (q : TimeoutRec) : (s.setTmo p d q).now = s.now := rfl
@[simp] theorem State.setTmo_faultBitmap (s : State) (p : Port) (d : Dir) (q : TimeoutRec) : (s.setTmo p d q).faultBitmap = s.faultBitmap := rfl
@[simp] theorem State.setTmo_faultTime (s : State) (p : Port) (d : Dir) (q : TimeoutRec) : (s.setTmo p d q).faultTime = s.faultTime := rfl
@[simp] theorem State.setTmo_irqMasked (s : State) (p : Port) (d : Dir) (q : TimeoutRec) : (s.setTmo p d q).irqMasked = s.irqMasked := rfl
@[simp] theorem State.setTmo_mon (s : State) (p : Port) (d : Dir) (q : TimeoutRec) : (s.setTmo p d q).mon = s.mon := rfl

/-! ## State.setTimer: a port only -/

@[simp] theorem State.setTimer_prm (s : State) (p : Port) (d : Dir) (n : Nat) : (s.setTimer p d n).prm = s.prm := rfl
@[simp] theorem State.setTimer_schedule (s : State) (p : Port) (d : Dir) (n : Nat) : (s.setTimer p d n).schedule = s.schedule := rfl
@[simp] theorem State.setTimer_result (s : State) (p : Port) (d : Dir) (n : Nat) : (s.setTimer p d n).result = s.result := rfl
@[simp] theorem State.setTimer_extOwner (s : State) (p : Port) (d : Dir) (n : Nat) : (s.setTimer p d n).extOwner = s.extOwner := rfl
@[simp] theorem State.setTimer_bypassMode (s : State) (p : Port) (d : Dir) (n : Nat) : (s.setTimer p d n).bypassMode = s.bypassMode := rfl
@[simp] theorem State.setTimer_pg (s : State) (p : Port) (d : Dir) (n : Nat) : (s.setTimer p d n).pg = s.pg := rfl
@[simp] theorem State.setTimer_xoffPollCount (s : State) (p : Port) (d : Dir) (n : Nat) : (s.setTimer p d n).xoffPollCount = s.xoffPollCount := rfl
@[simp] theorem State.setTimer_now (s : State) (p : Port) (d : Dir) (n : Nat) : (s.setTimer p d n).now = s.now := rfl
@[simp] theorem State.setTimer_faultBitmap (s : State) (p : Port) (d : Dir) (n : Nat) : (s.setTimer p d n).faultBitmap = s.faultBitmap := rfl
@[simp] theorem State.setTimer_faultTime (s : State) (p : Port) (d : Dir) (n : Nat) : (s.setTimer p d n).faultTime = s.faultTime := rfl
@[simp] theorem State.setTimer_irqMasked (s : State) (p : Port) (d : Dir) (n : Nat) : (s.setTimer p d n).irqMasked = s.irqMasked := rfl
@[simp] theorem State.setTimer_mon (s : State) (p : Port) (d : Dir) (n : Nat) : (s.setTimer p d n).mon = s.mon := rfl

/-! ## State.pushAllTx: a port only -/

@[simp] theorem State.pushAllTx_prm (s : State) (p : Port) (l : List Byte) : (s.pushAllTx p l).prm = s.prm := rfl
@[simp] theorem State.pushAllTx_schedule (s : State) (p : Port) (l : List Byte) : (s.pushAllTx p l).schedule = s.schedule := rfl
@[simp] theorem State.pushAllTx_result (s : State) (p : Port) (l : List Byte) : (s.pushAllTx p l).result = s.result := rfl
@[simp] theorem State.pushAllTx_extOwner (s : State) (p : Port) (l : List Byte) : (s.pushAllTx p l).extOwner = s.extOwner := rfl
@[simp] theorem State.pushAllTx_bypassMode (s : State) (p : Port) (l : List Byte) : (s.pushAllTx p l).bypassMode = s.bypassMode := rfl
@[simp] theorem State.pushAllTx_pg (s : State) (p : Port) (l : List Byte) : (s.pushAllTx p l).pg = s.pg := rfl
@[simp] theorem State.pushAllTx_xoffPollCount (s : State) (p : Port) (l : List Byte) : (s.pushAllTx p l).xoffPollCount = s.xoffPollCount := rfl
@[simp] theorem State.pushAllTx_now (s : State) (p : Port) (l : List Byte) : (s.pushAllTx p l).now = s.now := rfl
@[simp] theorem State.pushAllTx_faultBitmap (s : State) (p : Port) (l : List Byte) : (s.pushAllTx p l).faultBitmap = s.faultBitmap := rfl
@[simp] theorem State.pushAllTx_faultTime (s : State) (p : Port) (l : List Byte) : (s.pushAllTx p l).faultTime = s.faultTime := rfl
@[simp] theorem State.pushAllTx_irqMasked (s : State) (p : Port) (l : List Byte) : (s.pushAllTx p l).irqMasked = s.irqMasked := rfl
@[simp] theorem State.pushAllTx_mon (s : State) (p : Port) (l : List Byte) : (s.pushAllTx p l).mon = s.mon := rfl

/-! ## State.pushTx: a port only -/

@[simp] theorem State.pushTx_prm (s : State) (p : Port) (b : Byte) : (s.pushTx p b).prm = s.prm := rfl
@[simp] theorem State.pushTx_schedule (s : State) (p : Port) (b : Byte) : (s.pushTx p b).schedule = s.schedule := rfl
@[simp] theorem State.pushTx_result (s : State) (p : Port) (b : Byte) : (s.pushTx p b).result = s.result := rfl
@[simp] theorem State.pushTx_extOwner (s : State) (p : Port) (b : Byte) : (s.pushTx p b).extOwner = s.extOwner := rfl
@[simp] theorem State.pushTx_bypassMode (s : State) (p : Port) (b : Byte) : (s.pushTx p b).bypassMode = s.bypassMode := rfl
@[simp] theorem State.pushTx_pg (s : State) (p : Port) (b : Byte) : (s.pushTx p b).pg = s.pg := rfl
@[simp] theorem State.pushTx_xoffPollCount (s : State) (p : Port) (b : Byte) : (s.pushTx p b).xoffPollCount = s.xoffPollCount := rfl
@[simp] theorem State.pushTx_now (s : State) (p : Port) (b : Byte) : (s.pushTx p b).now = s.now := rfl
@[simp] theorem State.pushTx_faultBitmap (s : State) (p : Port) (b : Byte) : (s.pushTx p b).faultBitmap = s.faultBitmap := rfl
@[simp] theorem State.pushTx_faultTime (s : State) (p : Port) (b : Byte) : (s.pushTx p b).faultTime = s.faultTime := rfl
@[simp] theorem State.pushTx_irqMasked (s : State) (p : Port) (b : Byte) : (s.pushTx p b).irqMasked = s.irqMasked := rfl
@[simp] theorem State.pushTx_mon (s : State) (p : Port) (b : Byte) : (s.pushTx p b).mon = s.mon := rfl

/-! ## State.incCrcErr: a port only -/

@[simp] theorem State.incCrcErr_prm (s : State) (p : Port) : (s.incCrcErr p).prm = s.prm := rfl
@[simp] theorem State.incCrcErr_schedule (s : State) (p : Port) : (s.incCrcErr p).schedule = s.schedule := rfl
@[simp] theorem State.incCrcErr_result (s : State) (p : Port) : (s.incCrcErr p).result = s.result := rfl
@[simp] theorem State.incCrcErr_extOwner (s : State) (p : Port) : (s.incCrcErr p).extOwner = s.extOwner := rfl
@[simp] theorem State.incCrcErr_bypassMode (s : State) (p : Port) : (s.incCrcErr p).bypassMode = s.bypassMode := rfl
@[simp] theorem State.incCrcErr_pg (s : State) (p : Port) : (s.incCrcErr p).pg = s.pg := rfl
@[simp] theorem State.incCrcErr_xoffPollCount (s : State) (p : Port) : (s.incCrcErr p).xoffPollCount = s.xoffPollCount := rfl
@[simp] theorem State.incCrcErr_now (s : State) (p : Port) : (s.incCrcErr p).now = s.now := rfl
@[simp] theorem State.incCrcErr_faultBitmap (s : State) (p : Port) : (s.incCrcErr p).faultBitmap = s.faultBitmap := rfl
@[simp] theorem State.incCrcErr_faultTime (s : State) (p : Port) : (s.incCrcErr p).faultTime = s.faultTime := rfl
@[simp] theorem State.incCrcErr_irqMasked (s : State) (p : Port) : (s.incCrcErr p).irqMasked = s.irqMasked := rfl
@[simp] theorem State.incCrcErr_mon (s : State) (p : Port) : (s.incCrcErr p).mon = s.mon := rfl

/-! ## State.incPacket: a port only -/

@[simp] theorem State.incPacket_prm (s : State) (p : Port) (d : Dir) : (s.incPacket p d).prm = s.prm := rfl
@[simp] theorem State.incPacket_schedule (s : State) (p : Port) (d : Dir) : (s.incPacket p d).schedule = s.schedule := rfl
@[simp] theorem State.incPacket_result (s : State) (p : Port) (d : Dir) : (s.incPacket p d).result = s.result := rfl
@[simp] theorem State.incPacket_extOwner (s : State) (p : Port) (d : Dir) : (s.incPacket p d).extOwner = s.extOwner := rfl
@[simp] theorem State.incPacket_bypassMode (s : State) (p : Port) (d : Dir) : (s.incPacket p d).bypassMode = s.bypassMode := rfl
@[simp] theorem State.incPacket_pg (s : State) (p : Port) (d : Dir) : (s.incPacket p d).pg = s.pg := rfl
@[simp] theorem State.incPacket_xoffPollCount (s : State) (p : Port) (d : Dir) : (s.incPacket p d).xoffPollCount = s.xoffPollCount := rfl
@[simp] theorem State.incPacket_now (s : State) (p : Port) (d : Dir) : (s.incPacket p d).now = s.now := rfl
@[simp] theorem State.incPacket_faultBitmap (s : State) (p : Port) (d : Dir) : (s.incPacket p d).faultBitmap = s.faultBitmap := rfl
@[simp] theorem State.incPacket_faultTime (s : State) (p : Port) (d : Dir) : (s.incPacket p d).faultTime = s.faultTime := rfl
@[simp] theorem State.incPacket_irqMasked (s : State) (p : Port) (d : Dir) : (s.incPacket p d).irqMasked = s.irqMasked := rfl
@[simp] theorem State.incPacket_mon (s : State) (p : Port) (d : Dir) : (s.incPacket p d).mon = s.mon := rfl

/-! ## State.incTimeout: a port only -/

@[simp] theorem State.incTimeout_prm (s : State) (p : Port) (d : Dir) : (s.incTimeout p d).prm = s.prm := rfl
@[simp] theorem State.incTimeout_schedule (s : State) (p : Port) (d : Dir) : (s.incTimeout p d).schedule = s.schedule := rfl
@[simp] theorem State.incTimeout_result (s : State) (p : Port) (d : Dir) : (s.incTimeout p d).result = s.result := rfl
@[simp] theorem State.incTimeout_extOwner (s : State) (p : Port) (d : Dir) : (s.incTimeout p d).extOwner = s.extOwner := rfl
@[simp] theorem State.incTimeout_bypassMode (s : State) (p : Port) (d : Dir) : (s.incTimeout p d).bypassMode = s.bypassMode := rfl
@[simp] theorem State.incTimeout_pg (s : State) (p : Port) (d : Dir) : (s.incTimeout p d).pg = s.pg := rfl
@[simp] theorem State.incTimeout_xoffPollCount (s : State) (p : Port) (d : Dir) : (s.incTimeout p d).xoffPollCount = s.xoffPollCount := rfl
@[simp] theorem State.incTimeout_now (s : State) (p : Port) (d : Dir) : (s.incTimeout p d).now = s.now := rfl
@[simp] theorem State.incTimeout_faultBitmap (s : State) (p : Port) (d : Dir) : (s.incTimeout p d).faultBitmap = s.faultBitmap := rfl
@[simp] theorem State.incTimeout_faultTime (s : State) (p : Port) (d : Dir) : (s.incTimeout p d).faultTime = s.faultTime := rfl
@[simp] theorem State.incTimeout_irqMasked (s : State) (p : Port) (d : Dir) : (s.incTimeout p d).irqMasked = s.irqMasked := rfl
@[simp] theorem State.incTimeout_mon (s : State) (p : Port) (d : Dir) : (s.incTimeout p d).mon = s.mon := rfl

/-! ## clearPort: a port only -/

@[simp] theorem clearPort_prm (s : State) (p : Port) : (clearPort s p).prm = s.prm := rfl
@[simp] theorem clearPort_schedule (s : State) (p : Port) : (clearPort s p).schedule = s.schedule := rfl
@[simp] theorem clearPort_result (s : State) (p : Port) : (clearPort s p).result = s.result := rfl
@[simp] theorem clearPort_extOwner (s : State) (p : Port) : (clearPort s p).extOwner = s.extOwner := rfl
@[simp] theorem clearPort_bypassMode (s : State) (p : Port) : (clearPort s p).bypassMode = s.bypassMode := rfl
@[simp] theorem clearPort_pg (s : State) (p : Port) : (clearPort s p).pg = s.pg := rfl
@[simp] theorem clearPort_xoffPollCount (s : State) (p : Port) : (clearPort s p).xoffPollCount = s.xoffPollCount := rfl
@[simp] theorem clearPort_now (s : State) (p : Port) : (clearPort s p).now = s.now := rfl
@[simp] theorem clearPort_faultBitmap (s : State) (p : Port) : (clearPort s p).faultBitmap = s.faultBitmap := rfl
@[simp] theorem clearPort_faultTime (s : State) (p : Port) : (clearPort s p).faultTime = s.faultTime := rfl
@[simp] theorem clearPort_irqMasked (s : State) (p : Port) : (clearPort s p).irqMasked = s.irqMasked := rfl
@[simp] theorem clearPort_mon (s : State) (p : Port) : (clearPort s p).mon = s.mon := rfl

/-! ## fcUpdate: a port only -/

@[simp] theorem fcUpdate_prm (s : State) (p : Port) : (fcUpdate s p).prm = s.prm := rfl
@[simp] theorem fcUpdate_schedule (s : State) (p : Port) : (fcUpdate s p).schedule = s.schedule := rfl
@[simp] theorem fcUpdate_result (s : State) (p : Port) : (fcUpdate s p).result = s.result := rfl
@[simp] theorem fcUpdate_extOwner (s : State) (p : Port) : (fcUpdate s p).extOwner = s.extOwner := rfl
@[simp] theorem fcUpdate_bypassMode (s : State) (p : Port) : (fcUpdate s p).bypassMode = s.bypassMode := rfl
@[simp] theorem fcUpdate_pg (s : State) (p : Port) : (fcUpdate s p).pg = s.pg := rfl
@[simp] theorem fcUpdate_xoffPollCount (s : State) (p : Port) : (fcUpdate s p).xoffPollCount = s.xoffPollCount := rfl
@[simp] theorem fcUpdate_now (s : State) (p : Port) : (fcUpdate s p).now = s.now := rfl
@[simp] theorem fcUpdate_faultBitmap (s : State) (p : Port) : (fcUpdate s p).faultBitmap = s.faultBitmap := rfl
@[simp] theorem fcUpdate_faultTime (s : State) (p : Port) : (fcUpdate s p).faultTime = s.faultTime := rfl
@[simp] theorem fcUpdate_irqMasked (s : State) (p : Port) : (fcUpdate s p).irqMasked = s.irqMasked := rfl
@[simp] theorem fcUpdate_mon (s : State) (p : Port) : (fcUpdate s p).mon = s.mon := rfl

/-! ## consume: a port only -/

@[simp] theorem consume_prm (s : State) (p : Port) : (consume s p).prm = s.prm := rfl
@[simp] theorem consume_schedule (s : State) (p : Port) : (consume s p).schedule = s.schedule := rfl
@[simp] theorem consume_result (s : State) (p : Port) : (consume s p).result = s.result := rfl
@[simp] theorem consume_extOwner (s : State) (p : Port) : (consume s p).extOwner = s.extOwner := rfl
@[simp] theorem consume_bypassMode (s : State) (p : Port) : (consume s p).bypassMode = s.bypassMode := rfl
@[simp] theorem consume_pg (s : State) (p : Port) : (consume s p).pg = s.pg := rfl
@[simp] theorem consume_xoffPollCount (s : State) (p : Port) : (consume s p).xoffPollCount = s.xoffPollCount := rfl
@[simp] theorem consume_now (s : State) (p : Port) : (consume s p).now = s.now := rfl
@[simp] theorem consume_faultBitmap (s : State) (p : Port) : (consume s p).faultBitmap = s.faultBitmap := rfl
@[simp] theorem consume_faultTime (s : State) (p : Port) : (consume s p).faultTime = s.faultTime := rfl
@[simp] theorem consume_irqMasked (s : State) (p : Port) : (consume s p).irqMasked = s.irqMasked := rfl
@[simp] theorem consume_mon (s : State) (p : Port) : (consume s p).mon = s.mon := rfl

/-! ## storeRx: a port only -/

@[simp] theorem storeRx_prm (s : State) (p : Port) (b : Byte) : (storeRx s p b).prm = s.prm := rfl
@[simp] theorem storeRx_schedule (s : State) (p : Port) (b : Byte) : (storeRx s p b).schedule = s.schedule := rfl
@[simp] theorem storeRx_result (s : State) (p : Port) (b : Byte) : (storeRx s p b).result = s.result := rfl
@[simp] theorem storeRx_extOwner (s : State) (p : Port) (b : Byte) : (storeRx s p b).extOwner = s.extOwner := rfl
@[simp] theorem storeRx_bypassMode (s : State) (p : Port) (b : Byte) : (storeRx s p b).bypassMode = s.bypassMode := rfl
@[simp] theorem storeRx_pg (s : State) (p : Port) (b : Byte) : (storeRx s p b).pg = s.pg := rfl
@[simp] theorem storeRx_xoffPollCount (s : State) (p : Port) (b : Byte) : (storeRx s p b).xoffPollCount = s.xoffPollCount := rfl
@[simp] theorem storeRx_now (s : State) (p : Port) (b : Byte) : (storeRx s p b).now = s.now := rfl
@[simp] theorem storeRx_faultBitmap (s : State) (p : Port) (b : Byte) : (storeRx s p b).faultBitmap = s.faultBitmap := rfl
@[simp] theorem storeRx_faultTime (s : State) (p : Port) (b : Byte) : (storeRx s p b).faultTime = s.faultTime := rfl
@[simp] theorem storeRx_irqMasked (s : State) (p : Port) (b : Byte) : (storeRx s p b).irqMasked = s.irqMasked := rfl
@[simp] theorem storeRx_mon (s : State) (p : Port) (b : Byte) : (storeRx s p b).mon = s.mon := rfl

/-! ## markOverrun: a port only -/

@[simp] theorem markOverrun_prm (s : State) (p : Port) : (markOverrun s p).prm = s.prm := rfl
@[simp] theorem markOverrun_schedule (s : State) (p : Port) : (markOverrun s p).schedule = s.schedule := rfl
@[simp] theorem markOverrun_result (s : State) (p : Port) : (markOverrun s p).result = s.result := rfl
@[simp] theorem markOverrun_extOwner (s : State) (p : Port) : (markOverrun s p).extOwner = s.extOwner := rfl
@[simp] theorem markOverrun_bypassMode (s : State) (p : Port) : (markOverrun s p).bypassMode = s.bypassMode := rfl
@[simp] theorem markOverrun_pg (s : State) (p : Port) : (markOverrun s p).pg = s.pg := rfl
@[simp] theorem markOverrun_xoffPollCount (s : State) (p : Port) : (markOverrun s p).xoffPollCount = s.xoffPollCount := rfl
@[simp] theorem markOverrun_now (s : State) (p : Port) : (markOverrun s p).now = s.now := rfl
@[simp] theorem markOverrun_faultBitmap (s : State) (p : Port) : (markOverrun s p).faultBitmap = s.faultBitmap := rfl
@[simp] theorem markOverrun_faultTime (s : State) (p : Port) : (markOverrun s p).faultTime = s.faultTime := rfl
@[simp] theorem markOverrun_irqMasked (s : State) (p : Port) : (markOverrun s p).irqMasked = s.irqMasked := rfl
@[simp] theorem markOverrun_mon (s : State) (p : Port) : (markOverrun s p).mon = s.mon := rfl

/-! ## transmit: a port only -/

@[simp] theorem transmit_prm (s : State) (p : Port) : (transmit s p).prm = s.prm := rfl
@[simp] theorem transmit_schedule (s : State) (p : Port) : (transmit s p).schedule = s.schedule := rfl
@[simp] theorem transmit_result (s : State) (p : Port) : (transmit s p).result = s.result := rfl
@[simp] theorem transmit_extOwner (s : State) (p : Port) : (transmit s p).extOwner = s.extOwner := rfl
@[simp] theorem transmit_bypassMode (s : State) (p : Port) : (transmit s p).bypassMode = s.bypassMode := rfl
@[simp] theorem transmit_pg (s : State) (p : Port) : (transmit s p).pg = s.pg := rfl
@[simp] theorem transmit_xoffPollCount (s : State) (p : Port) : (transmit s p).xoffPollCount = s.xoffPollCount := rfl
@[simp] theorem transmit_now (s : State) (p : Port) : (transmit s p).now = s.now := rfl
@[simp] theorem transmit_faultBitmap (s : State) (p : Port) : (transmit s p).faultBitmap = s.faultBitmap := rfl
@[simp] theorem transmit_faultTime (s : State) (p : Port) : (transmit s p).faultTime = s.faultTime := rfl
@[simp] theorem transmit_irqMasked (s : State) (p : Port) : (transmit s p).irqMasked = s.irqMasked := rfl
@[simp] theorem transmit_mon (s : State) (p : Port) : (transmit s p).mon = s.mon := rfl

/-! ## setXoffDetected: a port only -/

@[simp] theorem setXoffDetected_prm (s : State) (p : Port) (b : Bool) : (setXoffDetected s p b).prm = s.prm := rfl
@[simp] theorem setXoffDetected_schedule (s : State) (p : Port) (b : Bool) : (setXoffDetected s p b).schedule = s.schedule := rfl
@[simp] theorem setXoffDetected_result (s : State) (p : Port) (b : Bool) : (setXoffDetected s p b).result = s.result := rfl
@[simp] theorem setXoffDetected_extOwner (s : State) (p : Port) (b : Bool) : (setXoffDetected s p b).extOwner = s.extOwner := rfl
@[simp] theorem setXoffDetected_bypassMode (s : State) (p : Port) (b : Bool) : (setXoffDetected s p b).bypassMode = s.bypassMode := rfl
@[simp] theorem setXoffDetected_pg (s : State) (p : Port) (b : Bool) : (setXoffDetected s p b).pg = s.pg := rfl
@[simp] theorem setXoffDetected_xoffPollCount (s : State) (p : Port) (b : Bool) : (setXoffDetected s p b).xoffPollCount = s.xoffPollCount := rfl
@[simp] theorem setXoffDetected_now (s : State) (p : Port) (b : Bool) : (setXoffDetected s p b).now = s.now := rfl
@[simp] theorem setXoffDetected_faultBitmap (s : State) (p : Port) (b : Bool) : (setXoffDetected s p b).faultBitmap = s.faultBitmap := rfl
@[simp] theorem setXoffDetected_faultTime (s : State) (p : Port) (b : Bool) : (setXoffDetected s p b).faultTime = s.faultTime := rfl
@[simp] theorem setXoffDetected_irqMasked (s : State) (p : Port) (b : Bool) : (setXoffDetected s p b).irqMasked = s.irqMasked := rfl
@[simp] theorem setXoffDetected_mon (s : State) (p : Port) (b : Bool) : (setXoffDetected s p b).mon = s.mon := rfl

/-! ## setSleepReq: a port only -/

@[simp] theorem setSleepReq_prm (s : State) (p : Port) (b : Bool) : (setSleepReq s p b).prm = s.prm := rfl
@[simp] theorem setSleepReq_schedule (s : State) (p : Port) (b : Bool) : (setSleepReq s p b).schedule = s.schedule := rfl
@[simp] theorem setSleepReq_result (s : State) (p : Port) (b : Bool) : (setSleepReq s p b).result = s.result := rfl
@[simp] theorem setSleepReq_extOwner (s : State) (p : Port) (b : Bool) : (setSleepReq s p b).extOwner = s.extOwner := rfl
@[simp] theorem setSleepReq_bypassMode (s : State) (p : Port) (b : Bool) : (setSleepReq s p b).bypassMode = s.bypassMode := rfl
@[simp] theorem setSleepReq_pg (s : State) (p : Port) (b : Bool) : (setSleepReq s p b).pg = s.pg := rfl
@[simp] theorem setSleepReq_xoffPollCount (s : State) (p : Port) (b : Bool) : (setSleepReq s p b).xoffPollCount = s.xoffPollCount := rfl
@[simp] theorem setSleepReq_now (s : State) (p : Port) (b : Bool) : (setSleepReq s p b).now = s.now := rfl
@[simp] theorem setSleepReq_faultBitmap (s : State) (p : Port) (b : Bool) : (setSleepReq s p b).faultBitmap = s.faultBitmap := rfl
@[simp] theorem setSleepReq_faultTime (s : State) (p : Port) (b : Bool) : (setSleepReq s p b).faultTime = s.faultTime := rfl
@[simp] theorem setSleepReq_irqMasked (s : State) (p : Port) (b : Bool) : (setSleepReq s p b).irqMasked = s.irqMasked := rfl
@[simp] theorem setSleepReq_mon (s : State) (p : Port) (b : Bool) : (setSleepReq s p b).mon = s.mon := rfl

/-! ## setPhase: a port only -/

@[simp] theorem setPhase_prm (s : State) (p : Port) (ph : Phase) : (setPhase s p ph).prm = s.prm := rfl
@[simp] theorem setPhase_schedule (s : State) (p : Port) (ph : Phase) : (setPhase s p ph).schedule = s.schedule := rfl
@[simp] theorem setPhase_result (s : State) (p : Port) (ph : Phase) : (setPhase s p ph).result = s.result := rfl
@[simp] theorem setPhase_extOwner (s : State) (p : Port) (ph : Phase) : (setPhase s p ph).extOwner = s.extOwner := rfl
@[simp] theorem setPhase_bypassMode (s : State) (p : Port) (ph : Phase) : (setPhase s p ph).bypassMode = s.bypassMode := rfl
@[simp] theorem setPhase_pg (s : State) (p : Port) (ph : Phase) : (setPhase s p ph).pg = s.pg := rfl
@[simp] theorem setPhase_xoffPollCount (s : State) (p : Port) (ph : Phase) : (setPhase s p ph).xoffPollCount = s.xoffPollCount := rfl
@[simp] theorem setPhase_now (s : State) (p : Port) (ph : Phase) : (setPhase s p ph).now = s.now := rfl
@[simp] theorem setPhase_faultBitmap (s : State) (p : Port) (ph : Phase) : (setPhase s p ph).faultBitmap = s.faultBitmap := rfl
@[simp] theorem setPhase_faultTime (s : State) (p : Port) (ph : Phase) : (setPhase s p ph).faultTime = s.faultTime := rfl
@[simp] theorem setPhase_irqMasked (s : State) (p : Port) (ph : Phase) : (setPhase s p ph).irqMasked = s.irqMasked := rfl
@[simp] theorem setPhase_mon (s : State) (p : Port) (ph : Phase) : (setPhase s p ph).mon = s.mon := rfl

/-! ## The ports after such an update -/

theorem State.port_setTxFifo (s : State) (p r : Port) (l : List Byte) :
    (s.setTxFifo p l).port r = if r = p then { s.port p with txFifo := l } else s.port r :=
  State.port_setPort s p r _

theorem State.port_setRxFifo (s : State) (p r : Port) (l : List Byte) :
    (s.setRxFifo p l).port r = if r = p then { s.port p with rxFifo := l } else s.port r :=
  State.port_setPort s p r _

theorem State.port_setParser (s : State) (p r : Port) (q : Parser) :
    (s.setParser p q).port r = if r = p then { s.port p with rxp := q } else s.port r :=
  State.port_setPort s p r _

theorem State.port_setTmo (s : State) (p r : Port) (d : Dir) (q : TimeoutRec) :
    (s.setTmo p d q).port r = if r = p then { s.port p with tmo := (s.port p).tmo.set d q } else s.port r :=
  State.port_setPort s p r _

theorem State.port_setTimer (s : State) (p r : Port) (d : Dir) (n : Nat) :
    (s.setTimer p d n).port r = if r = p then { s.port p with tmo := (s.port p).tmo.set d { s.tmo p d with timer := n } } else s.port r :=
  State.port_setPort s p r _

theorem State.port_pushAllTx (s : State) (p r : Port) (l : List Byte) :
    (s.pushAllTx p l).port r = if r = p then { s.port p with txFifo := s.txFifo p ++ l } else s.port r :=
  State.port_setPort s p r _

theorem State.port_pushTx (s : State) (p r : Port) (b : Byte) :
    (s.pushTx p b).port r = if r = p then { s.port p with txFifo := s.txFifo p ++ [b] } else s.port r :=
  State.port_setPort s p r _

theorem State.port_incCrcErr (s : State) (p r : Port) :
    (s.incCrcErr p).port r = if r = p then { s.port p with crcErrCount := s.inc (s.port p).crcErrCount } else s.port r :=
  State.port_setPort s p r _

theorem State.port_incPacket (s : State) (p r : Port) (d : Dir) :
    (s.incPacket p d).port r = if r = p then { s.port p with tmo := (s.port p).tmo.set d { s.tmo p d with packetCount := s.inc (s.tmo p d).packetCount } } else s.port r :=
  State.port_setPort s p r _

theorem State.port_incTimeout (s : State) (p r : Port) (d : Dir) :
    (s.incTimeout p d).port r = if r = p then { s.port p with tmo := (s.port p).tmo.set d { s.tmo p d with timeoutCount := s.inc (s.tmo p d).timeoutCount } } else s.port r :=
  State.port_setPort s p r _

theorem port_clearPort (s : State) (p r : Port) :
    (clearPort s p).port r = if r = p then { s.port p with txFifo := [], rxFifo := [], xoffAsserted := false, xoffDetected := false, sleepReq := false } else s.port r :=
  State.port_setPort s p r _

theorem port_storeRx (s : State) (p r : Port) (b : Byte) :
    (storeRx s p b).port r = if r = p then { s.port p with rxFifo := s.rxFifo p ++ [b], rxByteCount := s.inc (s.port p).rxByteCount } else s.port r :=
  State.port_setPort s p r _

theorem port_markOverrun (s : State) (p r : Port) :
    (markOverrun s p).port r = if r = p then { s.port p with rxOverrun := true } else s.port r :=
  State.port_setPort s p r _

theorem port_transmit (s : State) (p r : Port) :
    (transmit s p).port r = if r = p then { s.port p with txFifo := (s.txFifo p).tail, txByteCount := s.inc (s.port p).txByteCount } else s.port r :=
  State.port_setPort s p r _

theorem port_setXoffDetected (s : State) (p r : Port) (b : Bool) :
    (setXoffDetected s p b).port r = if r = p then { s.port p with xoffDetected := b } else s.port r :=
  State.port_setPort s p r _

theorem port_setSleepReq (s : State) (p r : Port) (b : Bool) :
    (setSleepReq s p b).port r = if r = p then { s.port p with sleepReq := b } else s.port r :=
  State.port_setPort s p r _

theorem port_setPhase (s : State) (p r : Port) (ph : Phase) :
    (setPhase s p ph).port r = if r = p then { s.port p with rxp := { s.rxp p with phase := ph } } else s.port r :=
  State.port_setPort s p r _

theorem port_fcUpdate (s : State) (p r : Port) :
    (fcUpdate s p).port r = if r = p then { s.port p with xoffAsserted := xoffLevel s.prm (s.port p).xoffAsserted (s.avail (s.rxFifo p)) } else s.port r :=
  State.port_setPort s p r _

theorem port_consume (s : State) (p r : Port) :
    (consume s p).port r =
      if r = p then
        { s.port p with
          rxFifo := (s.rxFifo p).tail
          xoffAsserted := xoffLevel s.prm (s.port p).xoffAsserted (s.avail (s.rxFifo p).tail) }
      else s.port r := by
  unfold consume
  rw [port_fcUpdate, State.port_setRxFifo, State.port_setRxFifo]
  by_cases h : r = p <;> simp [h, State.avail, State.rxFifo, State.port_setRxFifo]

/-! ## What such an update leaves of every port -/

@[simp] theorem State.setTmo_port_txFifo (s : State) (p : Port) (d : Dir) (x : TimeoutRec) (q : Port) :
    ((s.setTmo p d x).port q).txFifo = (s.port q).txFifo := by
  rw [State.port_setTmo]; split <;> simp_all only
@[simp] theorem State.setTmo_port_rxFifo (s : State) (p : Port) (d : Dir) (x : TimeoutRec) (q : Port) :
    ((s.setTmo p d x).port q).rxFifo = (s.port q).rxFifo := by
  rw [State.port_setTmo]; split <;> simp_all only
@[simp] theorem State.setTmo_port_rxp (s : State) (p : Port) (d : Dir) (x : TimeoutRec) (q : Port) :
    ((s.setTmo p d x).port q).rxp = (s.port q).rxp := by
  rw [State.port_setTmo]; split <;> simp_all only
@[simp] theorem State.setTimer_port_txFifo (s : State) (p : Port) (d : Dir) (n : Nat) (q : Port) :
    ((s.setTimer p d n).port q).txFifo = (s.port q).txFifo := by
  rw [State.port_setTimer]; split <;> simp_all only
@[simp] theorem State.setTimer_port_rxFifo (s : State) (p : Port) (d : Dir) (n : Nat) (q : Port) :
    ((s.setTimer p d n).port q).rxFifo = (s.port q).rxFifo := by
  rw [State.port_setTimer]; split <;> simp_all only
@[simp] theorem State.setTimer_port_rxp (s : State) (p : Port) (d : Dir) (n : Nat) (q : Port) :
    ((s.setTimer p d n).port q).rxp = (s.port q).rxp := by
  rw [State.port_setTimer]; split <;> simp_all only
@[simp] theorem State.incPacket_port_txFifo (s : State) (p : Port) (d : Dir) (q : Port) :
    ((s.incPacket p d).port q).txFifo = (s.port q).txFifo := by
  rw [State.port_incPacket]; split <;> simp_all only
@[simp] theorem State.incPacket_port_rxFifo (s : State) (p : Port) (d : Dir) (q : Port) :
    ((s.incPacket p d).port q).rxFifo = (s.port q).rxFifo := by
  rw [State.port_incPacket]; split <;> simp_all only
@[simp] theorem State.incPacket_port_rxp (s : State) (p : Port) (d : Dir) (q : Port) :
    ((s.incPacket p d).port q).rxp = (s.port q).rxp := by
  rw [State.port_incPacket]; split <;> simp_all only
@[simp] theorem State.incTimeout_port_txFifo (s : State) (p : Port) (d : Dir) (q : Port) :
    ((s.incTimeout p d).port q).txFifo = (s.port q).txFifo := by
  rw [State.port_incTimeout]; split <;> simp_all only
@[simp] theorem State.incTimeout_port_rxFifo (s : State) (p : Port) (d : Dir) (q : Port) :
    ((s.incTimeout p d).port q).rxFifo = (s.port q).rxFifo := by
  rw [State.port_incTimeout]; split <;> simp_all only
@[simp] theorem State.incTimeout_port_rxp (s : State) (p : Port) (d : Dir) (q : Port) :
    ((s.incTimeout p d).port q).rxp = (s.port q).rxp := by
  rw [State.port_incTimeout]; split <;> simp_all only
@[simp] theorem State.setParser_port_txFifo (s : State) (p : Port) (x : Parser) (q : Port) :
    ((s.setParser p x).port q).txFifo = (s.port q).txFifo := by
  rw [State.port_setParser]; split <;> simp_all only
@[simp] theorem State.setParser_port_rxFifo (s : State) (p : Port) (x : Parser) (q : Port) :
    ((s.setParser p x).port q).rxFifo = (s.port q).rxFifo := by
  rw [State.port_setParser]; split <;> simp_all only
@[simp] theorem State.setParser_port_tmo (s : State) (p : Port) (x : Parser) (q : Port) :
    ((s.setParser p x).port q).tmo = (s.port q).tmo := by
  rw [State.port_setParser]; split <;> simp_all only
@[simp] theorem setPhase_port_txFifo (s : State) (p : Port) (ph : Phase) (q : Port) :
    ((setPhase s p ph).port q).txFifo = (s.port q).txFifo := by
  rw [port_setPhase]; split <;> simp_all only
@[simp] theorem setPhase_port_rxFifo (s : State) (p : Port) (ph : Phase) (q : Port) :
    ((setPhase s p ph).port q).rxFifo = (s.port q).rxFifo := by
  rw [port_setPhase]; split <;> simp_all only
@[simp] theorem setPhase_port_tmo (s : State) (p : Port) (ph : Phase) (q : Port) :
    ((setPhase s p ph).port q).tmo = (s.port q).tmo := by
  rw [port_setPhase]; split <;> simp_all only
@[simp] theorem State.incCrcErr_port_txFifo (s : State) (p : Port) (q : Port) :
    ((s.incCrcErr p).port q).txFifo = (s.port q).txFifo := by
  rw [State.port_incCrcErr]; split <;> simp_all only
@[simp] theorem State.incCrcErr_port_rxFifo (s : State) (p : Port) (q : Port) :
    ((s.incCrcErr p).port q).rxFifo = (s.port q).rxFifo := by
  rw [State.port_incCrcErr]; split <;> simp_all only
@[simp] theorem State.incCrcErr_port_rxp (s : State) (p : Port) (q : Port) :
    ((s.incCrcErr p).port q).rxp = (s.port q).rxp := by
  rw [State.port_incCrcErr]; split <;> simp_all only
@[simp] theorem State.incCrcErr_port_tmo (s : State) (p : Port) (q : Port) :
    ((s.incCrcErr p).port q).tmo = (s.port q).tmo := by
  rw [State.port_incCrcErr]; split <;> simp_all only
@[simp] theorem State.pushAllTx_port_rxFifo (s : State) (p : Port) (l : List Byte) (q : Port) :
    ((s.pushAllTx p l).port q).rxFifo = (s.port q).rxFifo := by
  rw [State.port_pushAllTx]; split <;> simp_all only
@[simp] theorem State.pushAllTx_port_rxp (s : State) (p : Port) (l : List Byte) (q : Port) :
    ((s.pushAllTx p l).port q).rxp = (s.port q).rxp := by
  rw [State.port_pushAllTx]; split <;> simp_all only
@[simp] theorem State.pushAllTx_port_tmo (s : State) (p : Port) (l : List Byte) (q : Port) :
    ((s.pushAllTx p l).port q).tmo = (s.port q).tmo := by
  rw [State.port_pushAllTx]; split <;> simp_all only
@[simp] theorem State.pushTx_port_rxFifo (s : State) (p : Port) (b : Byte) (q : Port) :
    ((s.pushTx p b).port q).rxFifo = (s.port q).rxFifo := by
  rw [State.port_pushTx]; split <;> simp_all only
@[simp] theorem State.pushTx_port_rxp (s : State) (p : Port) (b : Byte) (q : Port) :
    ((s.pushTx p b).port q).rxp = (s.port q).rxp := by
  rw [State.port_pushTx]; split <;> simp_all only
@[simp] theorem State.pushTx_port_tmo (s : State) (p : Port) (b : Byte) (q : Port) :
    ((s.pushTx p b).port q).tmo = (s.port q).tmo := by
  rw [State.port_pushTx]; split <;> simp_all only
@[simp] theorem consume_port_txFifo (s : State) (p : Port) (q : Port) :
    ((consume s p).port q).txFifo = (s.port q).txFifo := by
  rw [port_consume]; split <;> simp_all only
@[simp] theorem consume_port_rxp (s : State) (p : Port) (q : Port) :
    ((consume s p).port q).rxp = (s.port q).rxp := by
  rw [port_consume]; split <;> simp_all only
@[simp] theorem consume_port_tmo (s : State) (p : Port) (q : Port) :
    ((consume s p).port q).tmo = (s.port q).tmo := by
  rw [port_consume]; split <;> simp_all only
@[simp] theorem setXoffDetected_port_txFifo (s : State) (p : Port) (b : Bool) (q : Port) :
    ((setXoffDetected s p b).port q).txFifo = (s.port q).txFifo := by
  rw [port_setXoffDetected]; split <;> simp_all only
@[simp] theorem setXoffDetected_port_rxFifo (s : State) (p : Port) (b : Bool) (q : Port) :
    ((setXoffDetected s p b).port q).rxFifo = (s.port q).rxFifo := by
  rw [port_setXoffDetected]; split <;> simp_all only
@[simp] theorem setXoffDetected_port_rxp (s : State) (p : Port) (b : Bool) (q : Port) :
    ((setXoffDetected s p b).port q).rxp = (s.port q).rxp := by
  rw [port_setXoffDetected]; split <;> simp_all only
@[simp] theorem setXoffDetected_port_tmo (s : State) (p : Port) (b : Bool) (q : Port) :
    ((setXoffDetected s p b).port q).tmo = (s.port q).tmo := by
  rw [port_setXoffDetected]; split <;> simp_all only
@[simp] theorem setSleepReq_port_txFifo (s : State) (p : Port) (b : Bool) (q : Port) :
    ((setSleepReq s p b).port q).txFifo = (s.port q).txFifo := by
  rw [port_setSleepReq]; split <;> simp_all only
@[simp] theorem setSleepReq_port_rxFifo (s : State) (p : Port) (b : Bool) (q : Port) :
    ((setSleepReq s p b).port q).rxFifo = (s.port q).rxFifo := by
  rw [port_setSleepReq]; split <;> simp_all only
@[simp] theorem setSleepReq_port_rxp (s : State) (p : Port) (b : Bool) (q : Port) :
    ((setSleepReq s p b).port q).rxp = (s.port q).rxp := by
  rw [port_setSleepReq]; split <;> simp_all only
@[simp] theorem setSleepReq_port_tmo (s : State) (p : Port) (b : Bool) (q : Port) :
    ((setSleepReq s p b).port q).tmo = (s.port q).tmo := by
  rw [port_setSleepReq]; split <;> simp_all only

/-! ## State.setPg -/

@[simp] theorem State.setPg_prm (s : State) (x : PowerGate) : (s.setPg x).prm = s.prm := rfl
@[simp] theorem State.setPg_schedule (s : State) (x : PowerGate) : (s.setPg x).schedule = s.schedule := rfl
@[simp] theorem State.setPg_result (s : State) (x : PowerGate) : (s.setPg x).result = s.result := rfl
@[simp] theorem State.setPg_ports (s : State) (x : PowerGate) : (s.setPg x).ports = s.ports := rfl
@[simp] theorem State.setPg_extOwner (s : State) (x : PowerGate) : (s.setPg x).extOwner = s.extOwner := rfl
@[simp] theorem State.setPg_bypassMode (s : State) (x : PowerGate) : (s.setPg x).bypassMode = s.bypassMode := rfl
@[simp] theorem State.setPg_pg (s : State) (x : PowerGate) : (s.setPg x).pg = x := rfl
@[simp] theorem State.setPg_xoffPollCount (s : State) (x : PowerGate) : (s.setPg x).xoffPollCount = s.xoffPollCount := rfl
@[simp] theorem State.setPg_now (s : State) (x : PowerGate) : (s.setPg x).now = s.now := rfl
@[simp] theorem State.setPg_faultBitmap (s : State) (x : PowerGate) : (s.setPg x).faultBitmap = s.faultBitmap := rfl
@[simp] theorem State.setPg_faultTime (s : State) (x : PowerGate) : (s.setPg x).faultTime = s.faultTime := rfl
@[simp] theorem State.setPg_irqMasked (s : State) (x : PowerGate) : (s.setPg x).irqMasked = s.irqMasked := rfl
@[simp] theorem State.setPg_mon (s : State) (x : PowerGate) : (s.setPg x).mon = s.mon := rfl
@[simp] theorem State.setPg_port (s : State) (x : PowerGate) (r : Port) : (s.setPg x).port r = s.port r := rfl

/-! ## State.setMon -/

@[simp] theorem State.setMon_prm (s : State) (x : Monitor) : (s.setMon x).prm = s.prm := rfl
@[simp] theorem State.setMon_schedule (s : State) (x : Monitor) : (s.setMon x).schedule = s.schedule := rfl
@[simp] theorem State.setMon_result (s : State) (x : Monitor) : (s.setMon x).result = s.result := rfl
@[simp] theorem State.setMon_ports (s : State) (x : Monitor) : (s.setMon x).ports = s.ports := rfl
@[simp] theorem State.setMon_extOwner (s : State) (x : Monitor) : (s.setMon x).extOwner = s.extOwner := rfl
@[simp] theorem State.setMon_bypassMode (s : State) (x : Monitor) : (s.setMon x).bypassMode = s.bypassMode := rfl
@[simp] theorem State.setMon_pg (s : State) (x : Monitor) : (s.setMon x).pg = s.pg := rfl
@[simp] theorem State.setMon_xoffPollCount (s : State) (x : Monitor) : (s.setMon x).xoffPollCount = s.xoffPollCount := rfl
@[simp] theorem State.setMon_now (s : State) (x : Monitor) : (s.setMon x).now = s.now := rfl
@[simp] theorem State.setMon_faultBitmap (s : State) (x : Monitor) : (s.setMon x).faultBitmap = s.faultBitmap := rfl
@[simp] theorem State.setMon_faultTime (s : State) (x : Monitor) : (s.setMon x).faultTime = s.faultTime := rfl
@[simp] theorem State.setMon_irqMasked (s : State) (x : Monitor) : (s.setMon x).irqMasked = s.irqMasked := rfl
@[simp] theorem State.setMon_mon (s : State) (x : Monitor) : (s.setMon x).mon = x := rfl
@[simp] theorem State.setMon_port (s : State) (x : Monitor) (r : Port) : (s.setMon x).port r = s.port r := rfl

/-! ## State.setOwner -/

@[simp] theorem State.setOwner_prm (s : State) (x : Option HostPort) : (s.setOwner x).prm = s.prm := rfl
@[simp] theorem State.setOwner_schedule (s : State) (x : Option HostPort) : (s.setOwner x).schedule = s.schedule := rfl
@[simp] theorem State.setOwner_result (s : State) (x : Option HostPort) : (s.setOwner x).result = s.result := rfl
@[simp] theorem State.setOwner_ports (s : State) (x : Option HostPort) : (s.setOwner x).ports = s.ports := rfl
@[simp] theorem State.setOwner_extOwner (s : State) (x : Option HostPort) : (s.setOwner x).extOwner = x := rfl
@[simp] theorem State.setOwner_bypassMode (s : State) (x : Option HostPort) : (s.setOwner x).bypassMode = s.bypassMode := rfl
@[simp] theorem State.setOwner_pg (s : State) (x : Option HostPort) : (s.setOwner x).pg = s.pg := rfl
@[simp] theorem State.setOwner_xoffPollCount (s : State) (x : Option HostPort) : (s.setOwner x).xoffPollCount = s.xoffPollCount := rfl
@[simp] theorem State.setOwner_now (s : State) (x : Option HostPort) : (s.setOwner x).now = s.now := rfl
@[simp] theorem State.setOwner_faultBitmap (s : State) (x : Option HostPort) : (s.setOwner x).faultBitmap = s.faultBitmap := rfl
@[simp] theorem State.setOwner_faultTime (s : State) (x : Option HostPort) : (s.setOwner x).faultTime = s.faultTime := rfl
@[simp] theorem State.setOwner_irqMasked (s : State) (x : Option HostPort) : (s.setOwner x).irqMasked = s.irqMasked := rfl
@[simp] theorem State.setOwner_mon (s : State) (x : Option HostPort) : (s.setOwner x).mon = s.mon := rfl
@[simp] theorem State.setOwner_port (s : State) (x : Option HostPort) (r : Port) : (s.setOwner x).port r = s.port r := rfl

/-! ## State.withResult -/

@[simp] theorem State.withResult_prm (s : State) (x : Result) : (s.withResult x).prm = s.prm := rfl
@[simp] theorem State.withResult_schedule (s : State) (x : Result) : (s.withResult x).schedule = s.schedule := rfl
@[simp] theorem State.withResult_result (s : State) (x : Result) : (s.withResult x).result = x := rfl
@[simp] theorem State.withResult_ports (s : State) (x : Result) : (s.withResult x).ports = s.ports := rfl
@[simp] theorem State.withResult_extOwner (s : State) (x : Result) : (s.withResult x).extOwner = s.extOwner := rfl
@[simp] theorem State.withResult_bypassMode (s : State) (x : Result) : (s.withResult x).bypassMode = s.bypassMode := rfl
@[simp] theorem State.withResult_pg (s : State) (x : Result) : (s.withResult x).pg = s.pg := rfl
@[simp] theorem State.withResult_xoffPollCount (s : State) (x : Result) : (s.withResult x).xoffPollCount = s.xoffPollCount := rfl
@[simp] theorem State.withResult_now (s : State) (x : Result) : (s.withResult x).now = s.now := rfl
@[simp] theorem State.withResult_faultBitmap (s : State) (x : Result) : (s.withResult x).faultBitmap = s.faultBitmap := rfl
@[simp] theorem State.withResult_faultTime (s : State) (x : Result) : (s.withResult x).faultTime = s.faultTime := rfl
@[simp] theorem State.withResult_irqMasked (s : State) (x : Result) : (s.withResult x).irqMasked = s.irqMasked := rfl
@[simp] theorem State.withResult_mon (s : State) (x : Result) : (s.withResult x).mon = s.mon := rfl
@[simp] theorem State.withResult_port (s : State) (x : Result) (r : Port) : (s.withResult x).port r = s.port r := rfl

/-! ## State.setIrqMasked -/

@[simp] theorem State.setIrqMasked_prm (s : State) (x : Bool) : (s.setIrqMasked x).prm = s.prm := rfl
@[simp] theorem State.setIrqMasked_schedule (s : State) (x : Bool) : (s.setIrqMasked x).schedule = s.schedule := rfl
@[simp] theorem State.setIrqMasked_result (s : State) (x : Bool) : (s.setIrqMasked x).result = s.result := rfl
@[simp] theorem State.setIrqMasked_ports (s : State) (x : Bool) : (s.setIrqMasked x).ports = s.ports := rfl
@[simp] theorem State.setIrqMasked_extOwner (s : State) (x : Bool) : (s.setIrqMasked x).extOwner = s.extOwner := rfl
@[simp] theorem State.setIrqMasked_bypassMode (s : State) (x : Bool) : (s.setIrqMasked x).bypassMode = s.bypassMode := rfl
@[simp] theorem State.setIrqMasked_pg (s : State) (x : Bool) : (s.setIrqMasked x).pg = s.pg := rfl
@[simp] theorem State.setIrqMasked_xoffPollCount (s : State) (x : Bool) : (s.setIrqMasked x).xoffPollCount = s.xoffPollCount := rfl
@[simp] theorem State.setIrqMasked_now (s : State) (x : Bool) : (s.setIrqMasked x).now = s.now := rfl
@[simp] theorem State.setIrqMasked_faultBitmap (s : State) (x : Bool) : (s.setIrqMasked x).faultBitmap = s.faultBitmap := rfl
@[simp] theorem State.setIrqMasked_faultTime (s : State) (x : Bool) : (s.setIrqMasked x).faultTime = s.faultTime := rfl
@[simp] theorem State.setIrqMasked_irqMasked (s : State) (x : Bool) : (s.setIrqMasked x).irqMasked = x := rfl
@[simp] theorem State.setIrqMasked_mon (s : State) (x : Bool) : (s.setIrqMasked x).mon = s.mon := rfl
@[simp] theorem State.setIrqMasked_port (s : State) (x : Bool) (r : Port) : (s.setIrqMasked x).port r = s.port r := rfl

/-! ## State.setPoll -/

@[simp] theorem State.setPoll_prm (s : State) (x : Nat) : (s.setPoll x).prm = s.prm := rfl
@[simp] theorem State.setPoll_schedule (s : State) (x : Nat) : (s.setPoll x).schedule = s.schedule := rfl
@[simp] theorem State.setPoll_result (s : State) (x : Nat) : (s.setPoll x).result = s.result := rfl
@[simp] theorem State.setPoll_ports (s : State) (x : Nat) : (s.setPoll x).ports = s.ports := rfl
@[simp] theorem State.setPoll_extOwner (s : State) (x : Nat) : (s.setPoll x).extOwner = s.extOwner := rfl
@[simp] theorem State.setPoll_bypassMode (s : State) (x : Nat) : (s.setPoll x).bypassMode = s.bypassMode := rfl
@[simp] theorem State.setPoll_pg (s : State) (x : Nat) : (s.setPoll x).pg = s.pg := rfl
@[simp] theorem State.setPoll_xoffPollCount (s : State) (x : Nat) : (s.setPoll x).xoffPollCount = x := rfl
@[simp] theorem State.setPoll_now (s : State) (x : Nat) : (s.setPoll x).now = s.now := rfl
@[simp] theorem State.setPoll_faultBitmap (s : State) (x : Nat) : (s.setPoll x).faultBitmap = s.faultBitmap := rfl
@[simp] theorem State.setPoll_faultTime (s : State) (x : Nat) : (s.setPoll x).faultTime = s.faultTime := rfl
@[simp] theorem State.setPoll_irqMasked (s : State) (x : Nat) : (s.setPoll x).irqMasked = s.irqMasked := rfl
@[simp] theorem State.setPoll_mon (s : State) (x : Nat) : (s.setPoll x).mon = s.mon := rfl
@[simp] theorem State.setPoll_port (s : State) (x : Nat) (r : Port) : (s.setPoll x).port r = s.port r := rfl

/-! ## State.withNextWord -/

@[simp] theorem State.withNextWord_prm (s : State) (x : Word32) : (s.withNextWord x).prm = s.prm := rfl
@[simp] theorem State.withNextWord_schedule (s : State) (x : Word32) : (s.withNextWord x).schedule = x :: s.schedule := rfl
@[simp] theorem State.withNextWord_result (s : State) (x : Word32) : (s.withNextWord x).result = s.result := rfl
@[simp] theorem State.withNextWord_ports (s : State) (x : Word32) : (s.withNextWord x).ports = s.ports := rfl
@[simp] theorem State.withNextWord_extOwner (s : State) (x : Word32) : (s.withNextWord x).extOwner = s.extOwner := rfl
@[simp] theorem State.withNextWord_bypassMode (s : State) (x : Word32) : (s.withNextWord x).bypassMode = s.bypassMode := rfl
@[simp] theorem State.withNextWord_pg (s : State) (x : Word32) : (s.withNextWord x).pg = s.pg := rfl
@[simp] theorem State.withNextWord_xoffPollCount (s : State) (x : Word32) : (s.withNextWord x).xoffPollCount = s.xoffPollCount := rfl
@[simp] theorem State.withNextWord_now (s : State) (x : Word32) : (s.withNextWord x).now = s.now := rfl
@[simp] theorem State.withNextWord_faultBitmap (s : State) (x : Word32) : (s.withNextWord x).faultBitmap = s.faultBitmap := rfl
@[simp] theorem State.withNextWord_faultTime (s : State) (x : Word32) : (s.withNextWord x).faultTime = s.faultTime := rfl
@[simp] theorem State.withNextWord_irqMasked (s : State) (x : Word32) : (s.withNextWord x).irqMasked = s.irqMasked := rfl
@[simp] theorem State.withNextWord_mon (s : State) (x : Word32) : (s.withNextWord x).mon = s.mon := rfl
@[simp] theorem State.withNextWord_port (s : State) (x : Word32) (r : Port) : (s.withNextWord x).port r = s.port r := rfl

/-! ## raiseFault -/

@[simp] theorem raiseFault_prm (s : State) (k : FaultKind) (p : Port) : (raiseFault s k p).prm = s.prm := rfl
@[simp] theorem raiseFault_schedule (s : State) (k : FaultKind) (p : Port) : (raiseFault s k p).schedule = s.schedule := rfl
@[simp] theorem raiseFault_result (s : State) (k : FaultKind) (p : Port) : (raiseFault s k p).result = s.result := rfl
@[simp] theorem raiseFault_ports (s : State) (k : FaultKind) (p : Port) : (raiseFault s k p).ports = s.ports := rfl
@[simp] theorem raiseFault_extOwner (s : State) (k : FaultKind) (p : Port) : (raiseFault s k p).extOwner = s.extOwner := rfl
@[simp] theorem raiseFault_bypassMode (s : State) (k : FaultKind) (p : Port) : (raiseFault s k p).bypassMode = s.bypassMode := rfl
@[simp] theorem raiseFault_pg (s : State) (k : FaultKind) (p : Port) : (raiseFault s k p).pg = s.pg := rfl
@[simp] theorem raiseFault_xoffPollCount (s : State) (k : FaultKind) (p : Port) : (raiseFault s k p).xoffPollCount = s.xoffPollCount := rfl
@[simp] theorem raiseFault_now (s : State) (k : FaultKind) (p : Port) : (raiseFault s k p).now = s.now := rfl
@[simp] theorem raiseFault_faultBitmap (s : State) (k : FaultKind) (p : Port) : (raiseFault s k p).faultBitmap = s.faultBitmap ||| (1 <<< faultBit k p) := rfl
@[simp] theorem raiseFault_faultTime (s : State) (k : FaultKind) (p : Port) : (raiseFault s k p).faultTime = s.now := rfl
@[simp] theorem raiseFault_irqMasked (s : State) (k : FaultKind) (p : Port) : (raiseFault s k p).irqMasked = s.irqMasked := rfl
@[simp] theorem raiseFault_mon (s : State) (k : FaultKind) (p : Port) : (raiseFault s k p).mon = s.mon := rfl
@[simp] theorem raiseFault_port (s : State) (k : FaultKind) (p r : Port) : (raiseFault s k p).port r = s.port r := rfl

/-! ## ackFaults -/

@[simp] theorem ackFaults_prm (s : State) (m : Word16) : (ackFaults s m).prm = s.prm := rfl
@[simp] theorem ackFaults_schedule (s : State) (m : Word16) : (ackFaults s m).schedule = s.schedule := rfl
@[simp] theorem ackFaults_result (s : State) (m : Word16) : (ackFaults s m).result = s.result := rfl
@[simp] theorem ackFaults_ports (s : State) (m : Word16) : (ackFaults s m).ports = s.ports := rfl
@[simp] theorem ackFaults_extOwner (s : State) (m : Word16) : (ackFaults s m).extOwner = s.extOwner := rfl
@[simp] theorem ackFaults_bypassMode (s : State) (m : Word16) : (ackFaults s m).bypassMode = s.bypassMode := rfl
@[simp] theorem ackFaults_pg (s : State) (m : Word16) : (ackFaults s m).pg = s.pg := rfl
@[simp] theorem ackFaults_xoffPollCount (s : State) (m : Word16) : (ackFaults s m).xoffPollCount = s.xoffPollCount := rfl
@[simp] theorem ackFaults_now (s : State) (m : Word16) : (ackFaults s m).now = s.now := rfl
@[simp] theorem ackFaults_faultBitmap (s : State) (m : Word16) : (ackFaults s m).faultBitmap = s.faultBitmap &&& ~~~m := rfl
@[simp] theorem ackFaults_faultTime (s : State) (m : Word16) : (ackFaults s m).faultTime = s.faultTime := rfl
@[simp] theorem ackFaults_irqMasked (s : State) (m : Word16) : (ackFaults s m).irqMasked = s.irqMasked := rfl
@[simp] theorem ackFaults_mon (s : State) (m : Word16) : (ackFaults s m).mon = s.mon := rfl
@[simp] theorem ackFaults_port (s : State) (m : Word16) (r : Port) : (ackFaults s m).port r = s.port r := rfl

/-! ## tickGate -/

@[simp] theorem tickGate_prm (s : State) (a : Ack) : (tickGate s a).prm = s.prm := rfl
@[simp] theorem tickGate_schedule (s : State) (a : Ack) : (tickGate s a).schedule = s.schedule := rfl
@[simp] theorem tickGate_result (s : State) (a : Ack) : (tickGate s a).result = s.result := rfl
@[simp] theorem tickGate_ports (s : State) (a : Ack) : (tickGate s a).ports = s.ports := rfl
@[simp] theorem tickGate_extOwner (s : State) (a : Ack) : (tickGate s a).extOwner = s.extOwner := rfl
@[simp] theorem tickGate_bypassMode (s : State) (a : Ack) : (tickGate s a).bypassMode = s.bypassMode := rfl
@[simp] theorem tickGate_pg (s : State) (a : Ack) : (tickGate s a).pg = s.pg.tick s.prm a := rfl
@[simp] theorem tickGate_xoffPollCount (s : State) (a : Ack) : (tickGate s a).xoffPollCount = s.xoffPollCount := rfl
@[simp] theorem tickGate_now (s : State) (a : Ack) : (tickGate s a).now = s.inc s.now := rfl
@[simp] theorem tickGate_faultBitmap (s : State) (a : Ack) : (tickGate s a).faultBitmap = s.faultBitmap := rfl
@[simp] theorem tickGate_faultTime (s : State) (a : Ack) : (tickGate s a).faultTime = s.faultTime := rfl
@[simp] theorem tickGate_irqMasked (s : State) (a : Ack) : (tickGate s a).irqMasked = s.irqMasked := rfl
@[simp] theorem tickGate_mon (s : State) (a : Ack) : (tickGate s a).mon = s.mon := rfl
@[simp] theorem tickGate_port (s : State) (a : Ack) (r : Port) : (tickGate s a).port r = s.port r := rfl

/-! ## Outcomes -/

@[simp] theorem reply_eq (s : State) (r : Result) : reply s r = .next (s.withResult r) := rfl

@[simp] theorem fail_eq (s : State) (c : ErrCode) : fail s c = .next (s.withResult (.err c)) := rfl

@[simp] theorem replyStep_some (s t : State) : replyStep s (some t) = .next (t.withResult .none) := rfl

@[simp] theorem replyStep_none (s : State) : replyStep s none = .next (s.withResult .notEnabled) := rfl

end Sys2Proof.Machine
end

