-- ==== Sys2Proof/Laws/Ops.lean ====
section
/-!
SUPPORT. For each shared operation over the state what it leaves: the fields it does not touch, and the ports, the owner
and the flags after it, said once and in full, so that later proofs cite these and never unfold the operation.
-/

namespace Sys2Proof.Machine

/-! ## Room and the watermark rule -/

/-- Free space for `n` bytes, as a bound on the occupancy. -/
theorem State.le_avail (s : State) (f : List Byte) {n : Nat} (h : 1 ≤ n) :
    n ≤ s.avail f ↔ f.length + n ≤ s.prm.fifoDepth := by
  unfold State.avail
  omega

/-- The level that the watermark rule leaves agrees with the free space (45_flowcontrol.md R192). -/
theorem xoffLevel_agrees {c : Params} (h : c.xoffAvailLow < c.xonAvailHigh) (old : Bool) (a : Nat) :
    (xoffLevel c old a = true → a < c.xonAvailHigh) ∧ (xoffLevel c old a = false → c.xoffAvailLow ≤ a) := by
  unfold xoffLevel
  by_cases h1 : a < c.xoffAvailLow
  · simp only [h1, if_true]
    exact ⟨fun _ => by omega, fun e => by cases e⟩
  · by_cases h2 : c.xonAvailHigh ≤ a
    · simp only [h1, h2, if_true, if_false]
      exact ⟨fun e => by (cases e), fun _ => by omega⟩
    · exact ⟨fun _ => by omega, fun _ => by omega⟩

/-- The level changes only at the thresholds (45_flowcontrol.md R185, R186, R193). -/
theorem xoffLevel_edges (c : Params) (old : Bool) (a : Nat) :
    (old = false → xoffLevel c old a = true → a < c.xoffAvailLow) ∧
    (old = true → xoffLevel c old a = false → c.xonAvailHigh ≤ a) := by
  unfold xoffLevel
  refine ⟨?_, ?_⟩ <;> rintro rfl h <;> split at h <;> simp_all

/-! ## progress -/

@[simp] theorem progress_prm (s : State) (p : Port) (d : Option Port) : (progress s p d).prm = s.prm := by
  cases d <;> rfl
@[simp] theorem progress_schedule (s : State) (p : Port) (d : Option Port) : (progress s p d).schedule = s.schedule := by
  cases d <;> rfl
@[simp] theorem progress_result (s : State) (p : Port) (d : Option Port) : (progress s p d).result = s.result := by
  cases d <;> rfl
@[simp] theorem progress_extOwner (s : State) (p : Port) (d : Option Port) : (progress s p d).extOwner = s.extOwner := by
  cases d <;> rfl
@[simp] theorem progress_bypassMode (s : State) (p : Port) (d : Option Port) : (progress s p d).bypassMode = s.bypassMode := by
  cases d <;> rfl
@[simp] theorem progress_pg (s : State) (p : Port) (d : Option Port) : (progress s p d).pg = s.pg := by
  cases d <;> rfl
@[simp] theorem progress_xoffPollCount (s : State) (p : Port) (d : Option Port) : (progress s p d).xoffPollCount = s.xoffPollCount := by
  cases d <;> rfl
@[simp] theorem progress_now (s : State) (p : Port) (d : Option Port) : (progress s p d).now = s.now := by
  cases d <;> rfl
@[simp] theorem progress_faultBitmap (s : State) (p : Port) (d : Option Port) : (progress s p d).faultBitmap = s.faultBitmap := by
  cases d <;> rfl
@[simp] theorem progress_faultTime (s : State) (p : Port) (d : Option Port) : (progress s p d).faultTime = s.faultTime := by
  cases d <;> rfl
@[simp] theorem progress_irqMasked (s : State) (p : Port) (d : Option Port) : (progress s p d).irqMasked = s.irqMasked := by
  cases d <;> rfl
@[simp] theorem progress_mon (s : State) (p : Port) (d : Option Port) : (progress s p d).mon = s.mon := by
  cases d <;> rfl

/-- `progress` restarts the two timers and nothing else (43_timeout.md R146). -/
theorem port_progress (s : State) (p : Port) (d : Option Port) (q : Port) :
    (progress s p d).port q = { s.port q with tmo := restartedTimers s p d q } := by
  cases d with
  | none =>
    simp only [progress, restartedTimers, State.port_setTimer]
    by_cases h : q = p
    · subst h; simp; rfl
    · simp [h]; rfl
  | some r =>
    have e : (some r = some q) = (q = r) := by simp [eq_comm]
    simp only [progress, restartedTimers, State.port_setTimer, e]
    by_cases h : q = p
    · subst h
      by_cases h' : q = r
      · subst h'; simp [State.port_setTimer]
      · simp [h']; rfl
    · by_cases h' : q = r
      · subst h'; simp [h, State.port_setTimer]; rfl
      · simp [h, h']; rfl

/-! ## releasePath, parserReset, portReset -/

@[simp] theorem releasePath_prm (s : State) (p : Port) : (releasePath s p).prm = s.prm := by
  unfold releasePath; repeat' split
  all_goals rfl
@[simp] theorem releasePath_schedule (s : State) (p : Port) : (releasePath s p).schedule = s.schedule := by
  unfold releasePath; repeat' split
  all_goals rfl
@[simp] theorem releasePath_result (s : State) (p : Port) : (releasePath s p).result = s.result := by
  unfold releasePath; repeat' split
  all_goals rfl
@[simp] theorem releasePath_bypassMode (s : State) (p : Port) : (releasePath s p).bypassMode = s.bypassMode := by
  unfold releasePath; repeat' split
  all_goals rfl
@[simp] theorem releasePath_pg (s : State) (p : Port) : (releasePath s p).pg = s.pg := by
  unfold releasePath; repeat' split
  all_goals rfl
@[simp] theorem releasePath_xoffPollCount (s : State) (p : Port) : (releasePath s p).xoffPollCount = s.xoffPollCount := by
  unfold releasePath; repeat' split
  all_goals rfl
@[simp] theorem releasePath_now (s : State) (p : Port) : (releasePath s p).now = s.now := by
  unfold releasePath; repeat' split
  all_goals rfl
@[simp] theorem releasePath_faultBitmap (s : State) (p : Port) : (releasePath s p).faultBitmap = s.faultBitmap := by
  unfold releasePath; repeat' split
  all_goals rfl
@[simp] theorem releasePath_faultTime (s : State) (p : Port) : (releasePath s p).faultTime = s.faultTime := by
  unfold releasePath; repeat' split
  all_goals rfl
@[simp] theorem releasePath_irqMasked (s : State) (p : Port) : (releasePath s p).irqMasked = s.irqMasked := by
  unfold releasePath; repeat' split
  all_goals rfl
@[simp] theorem releasePath_mon (s : State) (p : Port) : (releasePath s p).mon = s.mon := by
  unfold releasePath; repeat' split
  all_goals rfl

/-- The path after the first half of a parser reset: freed if its owner is the port (42_framer.md R132). -/
theorem releasePath_extOwner (s : State) (p : Port) :
    (releasePath s p).extOwner = if s.extOwner ≠ none ∧ s.extOwner = asHost p then none else s.extOwner := by
  unfold releasePath
  cases p <;> simp only [asHost] <;> split <;> simp_all

/-- The ports after the first half of a parser reset: one TX timer may stop (42_framer.md R132). -/
theorem port_releasePath (s : State) (p q : Port) :
    (releasePath s p).port q = { s.port q with
      tmo := { (s.port q).tmo with
        tx := { (s.port q).tmo.tx with
          timer :=
            if (q = .ext ∧ s.extOwner ≠ none ∧ s.extOwner = asHost p) ∨
                (p = .ext ∧ Delivering (s.rxp .ext) ∧ (s.rxp .ext).dest = q) then 0
            else s.timer q .tx } } } := by
  unfold releasePath
  cases p with
  | ext =>
    simp only [asHost]
    split
    next h =>
      rw [State.port_setTimer]
      by_cases hq : q = (s.rxp .ext).dest
      · subst hq; simp_all [Delivering]
      · simp [hq, Ne.symm hq]; rfl
    next h => simp_all [Delivering]; rfl
  | _ =>
    simp only [asHost]
    split
    next h =>
      rw [State.port_setTimer]
      by_cases hq : q = .ext
      · subst hq; simp_all
      · simp [hq]; rfl
    next h => simp_all; rfl

theorem rxp_releasePath (s : State) (p q : Port) : (releasePath s p).rxp q = s.rxp q := by
  simp only [State.rxp, port_releasePath]

@[simp] theorem parserReset_prm (s : State) (p : Port) : (parserReset s p).prm = s.prm := by
  simp [parserReset]
@[simp] theorem parserReset_schedule (s : State) (p : Port) : (parserReset s p).schedule = s.schedule := by
  simp [parserReset]
@[simp] theorem parserReset_result (s : State) (p : Port) : (parserReset s p).result = s.result := by
  simp [parserReset]
@[simp] theorem parserReset_bypassMode (s : State) (p : Port) : (parserReset s p).bypassMode = s.bypassMode := by
  simp [parserReset]
@[simp] theorem parserReset_pg (s : State) (p : Port) : (parserReset s p).pg = s.pg := by
  simp [parserReset]
@[simp] theorem parserReset_xoffPollCount (s : State) (p : Port) : (parserReset s p).xoffPollCount = s.xoffPollCount := by
  simp [parserReset]
@[simp] theorem parserReset_now (s : State) (p : Port) : (parserReset s p).now = s.now := by
  simp [parserReset]
@[simp] theorem parserReset_faultBitmap (s : State) (p : Port) : (parserReset s p).faultBitmap = s.faultBitmap := by
  simp [parserReset]
@[simp] theorem parserReset_faultTime (s : State) (p : Port) : (parserReset s p).faultTime = s.faultTime := by
  simp [parserReset]
@[simp] theorem parserReset_irqMasked (s : State) (p : Port) : (parserReset s p).irqMasked = s.irqMasked := by
  simp [parserReset]
@[simp] theorem parserReset_mon (s : State) (p : Port) : (parserReset s p).mon = s.mon := by
  simp [parserReset]

/-- The path after a parser reset (42_framer.md R132). -/
theorem parserReset_extOwner (s : State) (p : Port) :
    (parserReset s p).extOwner = if s.extOwner ≠ none ∧ s.extOwner = asHost p then none else s.extOwner := by
  simp [parserReset, releasePath_extOwner]

/-- The ports after a parser reset (42_framer.md R132). -/
theorem port_parserReset (s : State) (p q : Port) :
    (parserReset s p).port q = { s.port q with
      rxp := if q = p then (s.rxp p).atBoundary else s.rxp q
      tmo :=
        { tx := { s.tmo q .tx with
            timer :=
              if (q = .ext ∧ s.extOwner ≠ none ∧ s.extOwner = asHost p) ∨
                  (p = .ext ∧ Delivering (s.rxp .ext) ∧ (s.rxp .ext).dest = q) then 0
              else s.timer q .tx }
          rx := { s.tmo q .rx with timer := if q = p then 0 else s.timer q .rx } } } := by
  simp only [parserReset, State.port_setTimer, State.tmo]
  by_cases h : q = p
  · subst h
    simp [State.port_setParser, port_releasePath]
  · simp [h, State.port_setParser, port_releasePath]
    rfl

@[simp] theorem portReset_prm (s : State) (p : Port) : (portReset s p).prm = s.prm := by
  simp [portReset]
@[simp] theorem portReset_schedule (s : State) (p : Port) : (portReset s p).schedule = s.schedule := by
  simp [portReset]
@[simp] theorem portReset_result (s : State) (p : Port) : (portReset s p).result = s.result := by
  simp [portReset]
@[simp] theorem portReset_bypassMode (s : State) (p : Port) : (portReset s p).bypassMode = s.bypassMode := by
  simp [portReset]
@[simp] theorem portReset_pg (s : State) (p : Port) : (portReset s p).pg = s.pg := by
  simp [portReset]
@[simp] theorem portReset_xoffPollCount (s : State) (p : Port) : (portReset s p).xoffPollCount = s.xoffPollCount := by
  simp [portReset]
@[simp] theorem portReset_now (s : State) (p : Port) : (portReset s p).now = s.now := by
  simp [portReset]
@[simp] theorem portReset_faultBitmap (s : State) (p : Port) : (portReset s p).faultBitmap = s.faultBitmap := by
  simp [portReset]
@[simp] theorem portReset_faultTime (s : State) (p : Port) : (portReset s p).faultTime = s.faultTime := by
  simp [portReset]
@[simp] theorem portReset_irqMasked (s : State) (p : Port) : (portReset s p).irqMasked = s.irqMasked := by
  simp [portReset]
@[simp] theorem portReset_mon (s : State) (p : Port) : (portReset s p).mon = s.mon := by
  simp [portReset]

/-- The path after a port reset (42_framer.md R133). -/
theorem portReset_extOwner (s : State) (p : Port) :
    (portReset s p).extOwner = if s.extOwner ≠ none ∧ s.extOwner = asHost p then none else s.extOwner := by
  rw [portReset, parserReset_extOwner, clearPort_extOwner]

/-- The ports after a port reset (42_framer.md R133). -/
theorem port_portReset (s : State) (p q : Port) :
    (portReset s p).port q = { s.port q with
      txFifo := if q = p then [] else s.txFifo q
      rxFifo := if q = p then [] else s.rxFifo q
      xoffAsserted := if q = p then false else (s.port q).xoffAsserted
      xoffDetected := if q = p then false else (s.port q).xoffDetected
      sleepReq := if q = p then false else (s.port q).sleepReq
      rxp := if q = p then (s.rxp p).atBoundary else s.rxp q
      tmo :=
        { tx := { s.tmo q .tx with
            timer :=
              if (q = .ext ∧ s.extOwner ≠ none ∧ s.extOwner = asHost p) ∨
                  (p = .ext ∧ Delivering (s.rxp .ext) ∧ (s.rxp .ext).dest = q) then 0
              else s.timer q .tx }
          rx := { s.tmo q .rx with timer := if q = p then 0 else s.timer q .rx } } } := by
  have e : ∀ r, (clearPort s p).rxp r = s.rxp r := fun r => by
    simp only [State.rxp, port_clearPort]; split <;> simp_all
  have e' : ∀ r, ((clearPort s p).port r).tmo = (s.port r).tmo := fun r => by
    simp only [port_clearPort]; split <;> simp_all
  simp only [portReset, port_parserReset, e, clearPort_extOwner, State.tmo, State.timer, e']
  rw [port_clearPort]
  by_cases h : q = p
  · subst h; simp
  · simp [h]

/-! ## consume and lineInject -/

@[simp] theorem lineInject_prm (s : State) (p : Port) (b : Byte) : (lineInject s p b).prm = s.prm := by
  unfold lineInject; repeat' split
  all_goals rfl
@[simp] theorem lineInject_schedule (s : State) (p : Port) (b : Byte) : (lineInject s p b).schedule = s.schedule := by
  unfold lineInject; repeat' split
  all_goals rfl
@[simp] theorem lineInject_result (s : State) (p : Port) (b : Byte) : (lineInject s p b).result = s.result := by
  unfold lineInject; repeat' split
  all_goals rfl
@[simp] theorem lineInject_extOwner (s : State) (p : Port) (b : Byte) : (lineInject s p b).extOwner = s.extOwner := by
  unfold lineInject; repeat' split
  all_goals rfl
@[simp] theorem lineInject_bypassMode (s : State) (p : Port) (b : Byte) : (lineInject s p b).bypassMode = s.bypassMode := by
  unfold lineInject; repeat' split
  all_goals rfl
@[simp] theorem lineInject_pg (s : State) (p : Port) (b : Byte) : (lineInject s p b).pg = s.pg := by
  unfold lineInject; repeat' split
  all_goals rfl
@[simp] theorem lineInject_xoffPollCount (s : State) (p : Port) (b : Byte) : (lineInject s p b).xoffPollCount = s.xoffPollCount := by
  unfold lineInject; repeat' split
  all_goals rfl
@[simp] theorem lineInject_now (s : State) (p : Port) (b : Byte) : (lineInject s p b).now = s.now := by
  unfold lineInject; repeat' split
  all_goals rfl
@[simp] theorem lineInject_faultBitmap (s : State) (p : Port) (b : Byte) : (lineInject s p b).faultBitmap = s.faultBitmap := by
  unfold lineInject; repeat' split
  all_goals rfl
@[simp] theorem lineInject_faultTime (s : State) (p : Port) (b : Byte) : (lineInject s p b).faultTime = s.faultTime := by
  unfold lineInject; repeat' split
  all_goals rfl
@[simp] theorem lineInject_irqMasked (s : State) (p : Port) (b : Byte) : (lineInject s p b).irqMasked = s.irqMasked := by
  unfold lineInject; repeat' split
  all_goals rfl
@[simp] theorem lineInject_mon (s : State) (p : Port) (b : Byte) : (lineInject s p b).mon = s.mon := by
  unfold lineInject; repeat' split
  all_goals rfl

/-- The ports after a byte has arrived on the line of `p` (40_port_fifo.md R91, R92). -/
theorem port_lineInject (s : State) (p q : Port) (b : Byte) :
    (lineInject s p b).port q =
      if q ≠ p ∨ s.pgState = .idle then s.port q
      else if (s.rxFifo p).length + 1 ≤ s.prm.fifoDepth then
        { s.port p with
          rxFifo := s.rxFifo p ++ [b]
          rxByteCount := s.inc (s.port p).rxByteCount
          xoffAsserted :=
            xoffLevel s.prm (s.port p).xoffAsserted (s.prm.fifoDepth - ((s.rxFifo p).length + 1)) }
      else { s.port p with rxOverrun := true } := by
  unfold lineInject
  by_cases hi : s.pgState = .idle
  · simp [hi]
  · simp only [hi, if_false, or_false]
    by_cases hq : q = p
    · subst hq
      simp only [s.le_avail _ (Nat.le_refl 1)]
      split <;>
        simp_all [port_fcUpdate, port_storeRx, port_markOverrun, State.avail, State.rxFifo]
    · split <;> simp [hq, port_fcUpdate, port_storeRx, port_markOverrun]

/-! ## completeFrame -/

@[simp] theorem completeFrame_prm (s : State) (p : Port) : (completeFrame s p).prm = s.prm := by
  unfold completeFrame; dsimp only; split <;> rfl
@[simp] theorem completeFrame_schedule (s : State) (p : Port) : (completeFrame s p).schedule = s.schedule := by
  unfold completeFrame; dsimp only; split <;> rfl
@[simp] theorem completeFrame_result (s : State) (p : Port) : (completeFrame s p).result = s.result := by
  unfold completeFrame; dsimp only; split <;> rfl
@[simp] theorem completeFrame_bypassMode (s : State) (p : Port) : (completeFrame s p).bypassMode = s.bypassMode := by
  unfold completeFrame; dsimp only; split <;> rfl
@[simp] theorem completeFrame_pg (s : State) (p : Port) : (completeFrame s p).pg = s.pg := by
  unfold completeFrame; dsimp only; split <;> rfl
@[simp] theorem completeFrame_xoffPollCount (s : State) (p : Port) : (completeFrame s p).xoffPollCount = s.xoffPollCount := by
  unfold completeFrame; dsimp only; split <;> rfl
@[simp] theorem completeFrame_now (s : State) (p : Port) : (completeFrame s p).now = s.now := by
  unfold completeFrame; dsimp only; split <;> rfl
@[simp] theorem completeFrame_faultBitmap (s : State) (p : Port) : (completeFrame s p).faultBitmap = s.faultBitmap := by
  unfold completeFrame; dsimp only; split <;> rfl
@[simp] theorem completeFrame_faultTime (s : State) (p : Port) : (completeFrame s p).faultTime = s.faultTime := by
  unfold completeFrame; dsimp only; split <;> rfl
@[simp] theorem completeFrame_irqMasked (s : State) (p : Port) : (completeFrame s p).irqMasked = s.irqMasked := by
  unfold completeFrame; dsimp only; split <;> rfl
@[simp] theorem completeFrame_mon (s : State) (p : Port) : (completeFrame s p).mon = s.mon := by
  unfold completeFrame; dsimp only; split <;> rfl

/-- The path after the end of a frame: freed if its source is a host (42_framer.md R129). -/
theorem completeFrame_extOwner (s : State) (p : Port) :
    (completeFrame s p).extOwner = if p = .ext then s.extOwner else none := by
  unfold completeFrame
  cases p <;> rfl

/-- The ports after the end of a frame (42_framer.md R129). -/
theorem port_completeFrame (s : State) (p q : Port) :
    (completeFrame s p).port q = { s.port q with
      rxp := if q = p then (s.rxp p).atBoundary else s.rxp q
      tmo := completedTimers s p (s.rxp p).dest q } := by
  have e : ∀ t : State, (if (asHost p).isSome = true then t.setOwner none else t).port = t.port := by
    intro t; split <;> rfl
  have e2 : ((s.incPacket p .rx).incPacket (s.rxp p).dest .tx).rxp p = s.rxp p := by
    simp
  simp only [completeFrame, State.port_setTimer, State.port_setParser, e, State.rxp, State.tmo] at e2 ⊢
  rw [e2]
  generalize (s.port p).rxp.dest = d
  by_cases hp : q = p
  · subst hp
    by_cases hd : q = d
    · subst hd; simp [State.port_incPacket, completedTimers, restartedTimers, State.inc]
    · have hd' : ¬ d = q := fun h => hd h.symm
      simp [hd, hd', State.port_incPacket, completedTimers, restartedTimers, State.inc]; rfl
  · by_cases hd : q = d
    · subst hd; simp [hp, State.port_incPacket, completedTimers, restartedTimers, State.inc]; rfl
    · have hd' : ¬ d = q := fun h => hd h.symm
      simp [hp, hd, hd', State.port_incPacket, completedTimers, restartedTimers]; rfl

/-! ## The monitor's taps -/

/-- Reporting `f` to the monitor, in the terms of `observed`: the four reports of the hub core change the monitor only, and
only while it captures (46_monitor.md R202, R206). -/
theorem tap_eq (s : State) (d : Dir) (b : Byte) (first : Bool) :
    tap s d b first = s.setMon (observed s fun m => m.tap d b first) := by
  unfold tap observed State.capturing
  cases h : s.mon.monEnabled <;> cases h' : s.bypassMode <;> rfl

theorem endEvent_eq (s : State) (d : Dir) (r : PktInfo) (crc : Option Word16) :
    endEvent s d r crc = s.setMon (observed s fun m => m.endEvent d r crc) := by
  unfold endEvent observed State.capturing
  cases h : s.mon.monEnabled <;> cases h' : s.bypassMode <;> rfl

theorem latchLen_eq (s : State) (d : Dir) (n : Nat) :
    latchLen s d n = s.setMon (observed s fun m => m.latched d n) := by
  unfold latchLen observed State.capturing
  cases h : s.mon.monEnabled <;> cases h' : s.bypassMode <;> rfl

@[simp] theorem Monitor.setDir_monEnabled (m : Monitor) (d : Dir) (x : MonDir) : (m.setDir d x).monEnabled = m.monEnabled := rfl
@[simp] theorem Monitor.setDir_monMode (m : Monitor) (d : Dir) (x : MonDir) : (m.setDir d x).monMode = m.monMode := rfl
@[simp] theorem Monitor.setDir_monRolling (m : Monitor) (d : Dir) (x : MonDir) : (m.setDir d x).monRolling = m.monRolling := rfl
@[simp] theorem Monitor.setDir_monMirror (m : Monitor) (d : Dir) (x : MonDir) : (m.setDir d x).monMirror = m.monMirror := rfl
@[simp] theorem Monitor.setDir_dirs (m : Monitor) (d : Dir) (x : MonDir) : (m.setDir d x).dirs = m.dirs.set d x := rfl

/-- No report switches the capture on or off. -/
@[simp] theorem Monitor.tap_monEnabled (m : Monitor) (d : Dir) (b : Byte) (first : Bool) :
    (m.tap d b first).monEnabled = m.monEnabled := by
  unfold Monitor.tap; split <;> rfl

@[simp] theorem Monitor.tapList_monEnabled (d : Dir) (l : List Byte) :
    ∀ (m : Monitor) (first : Bool), (m.tapList d first l).monEnabled = m.monEnabled := by
  induction l with
  | nil => exact fun _ _ => rfl
  | cons b l ih => exact fun m first => by simp [Monitor.tapList, ih]

@[simp] theorem Monitor.storeCrc_monEnabled (m : Monitor) (d : Dir) (c : Word16) :
    (m.storeCrc d c).monEnabled = m.monEnabled := by
  unfold Monitor.storeCrc; dsimp only; split <;> rfl

@[simp] theorem Monitor.endEvent_monEnabled (m : Monitor) (d : Dir) (r : PktInfo) (crc : Option Word16) :
    (m.endEvent d r crc).monEnabled = m.monEnabled := by
  unfold Monitor.endEvent; split <;> (try split) <;> simp

@[simp] theorem Monitor.latched_monEnabled (m : Monitor) (d : Dir) (n : Nat) :
    (m.latched d n).monEnabled = m.monEnabled := rfl

/-- Two reports in a row are one report of both. -/
theorem observed_setMon (s : State) (f g : Monitor → Monitor) (h : ∀ m, (f m).monEnabled = m.monEnabled) :
    observed (s.setMon (observed s f)) g = observed s fun m => g (f m) := by
  unfold observed
  by_cases hc : s.mon.monEnabled = true ∧ s.bypassMode = false
  · simp [hc, h]
  · simp [hc]

/-- The report of a state that differs from `s` in ports, owner and faults only. -/
theorem observed_congr {s t : State} (f : Monitor → Monitor) (hm : t.mon = s.mon) (hb : t.bypassMode = s.bypassMode) :
    observed t f = observed s f := by
  unfold observed; rw [hm, hb]

/-- The taps of several bytes, none of them first. -/
theorem tapRest_eq (d : Dir) (l : List Byte) :
    ∀ s : State, tapRest s d l = s.setMon (observed s fun m => m.tapList d false l) := by
  induction l with
  | nil =>
    intro s
    unfold observed
    simp [tapRest, Monitor.tapList, State.setMon]
  | cons b l ih =>
    intro s
    have e : tapRest s d (b :: l) = tapRest (tap s d b false) d l := rfl
    rw [e, ih, tap_eq, observed_setMon _ _ _ (fun m => m.tap_monEnabled d b false)]
    rfl

/-- The taps of a header, its first byte first of an event. -/
theorem tapHeader_eq (s : State) (d : Dir) (l : List Byte) :
    tapHeader s d l = s.setMon (observed s fun m => m.tapList d true l) := by
  cases l with
  | nil =>
    unfold observed
    simp [tapHeader, Monitor.tapList, State.setMon]
  | cons b l =>
    have e : tapHeader s d (b :: l) = tapRest (tap s d b true) d l := rfl
    rw [e, tapRest_eq, tap_eq, observed_setMon _ _ _ (fun m => m.tap_monEnabled d b true)]
    rfl

@[simp] theorem tap_prm (s : State) (d : Dir) (b : Byte) (first : Bool) : (tap s d b first).prm = s.prm := by
  rw [tap_eq]; rfl
@[simp] theorem tap_schedule (s : State) (d : Dir) (b : Byte) (first : Bool) : (tap s d b first).schedule = s.schedule := by
  rw [tap_eq]; rfl
@[simp] theorem tap_result (s : State) (d : Dir) (b : Byte) (first : Bool) : (tap s d b first).result = s.result := by
  rw [tap_eq]; rfl
@[simp] theorem tap_ports (s : State) (d : Dir) (b : Byte) (first : Bool) : (tap s d b first).ports = s.ports := by
  rw [tap_eq]; rfl
@[simp] theorem tap_extOwner (s : State) (d : Dir) (b : Byte) (first : Bool) : (tap s d b first).extOwner = s.extOwner := by
  rw [tap_eq]; rfl
@[simp] theorem tap_bypassMode (s : State) (d : Dir) (b : Byte) (first : Bool) : (tap s d b first).bypassMode = s.bypassMode := by
  rw [tap_eq]; rfl
@[simp] theorem tap_pg (s : State) (d : Dir) (b : Byte) (first : Bool) : (tap s d b first).pg = s.pg := by
  rw [tap_eq]; rfl
@[simp] theorem tap_xoffPollCount (s : State) (d : Dir) (b : Byte) (first : Bool) : (tap s d b first).xoffPollCount = s.xoffPollCount := by
  rw [tap_eq]; rfl
@[simp] theorem tap_now (s : State) (d : Dir) (b : Byte) (first : Bool) : (tap s d b first).now = s.now := by
  rw [tap_eq]; rfl
@[simp] theorem tap_faultBitmap (s : State) (d : Dir) (b : Byte) (first : Bool) : (tap s d b first).faultBitmap = s.faultBitmap := by
  rw [tap_eq]; rfl
@[simp] theorem tap_faultTime (s : State) (d : Dir) (b : Byte) (first : Bool) : (tap s d b first).faultTime = s.faultTime := by
  rw [tap_eq]; rfl
@[simp] theorem tap_irqMasked (s : State) (d : Dir) (b : Byte) (first : Bool) : (tap s d b first).irqMasked = s.irqMasked := by
  rw [tap_eq]; rfl
@[simp] theorem tap_port (s : State) (d : Dir) (b : Byte) (first : Bool) (q : Port) : (tap s d b first).port q = s.port q := by
  rw [tap_eq]; rfl

@[simp] theorem tapRest_prm (s : State) (d : Dir) (l : List Byte) : (tapRest s d l).prm = s.prm := by
  rw [tapRest_eq]; rfl
@[simp] theorem tapRest_schedule (s : State) (d : Dir) (l : List Byte) : (tapRest s d l).schedule = s.schedule := by
  rw [tapRest_eq]; rfl
@[simp] theorem tapRest_result (s : State) (d : Dir) (l : List Byte) : (tapRest s d l).result = s.result := by
  rw [tapRest_eq]; rfl
@[simp] theorem tapRest_ports (s : State) (d : Dir) (l : List Byte) : (tapRest s d l).ports = s.ports := by
  rw [tapRest_eq]; rfl
@[simp] theorem tapRest_extOwner (s : State) (d : Dir) (l : List Byte) : (tapRest s d l).extOwner = s.extOwner := by
  rw [tapRest_eq]; rfl
@[simp] theorem tapRest_bypassMode (s : State) (d : Dir) (l : List Byte) : (tapRest s d l).bypassMode = s.bypassMode := by
  rw [tapRest_eq]; rfl
@[simp] theorem tapRest_pg (s : State) (d : Dir) (l : List Byte) : (tapRest s d l).pg = s.pg := by
  rw [tapRest_eq]; rfl
@[simp] theorem tapRest_xoffPollCount (s : State) (d : Dir) (l : List Byte) : (tapRest s d l).xoffPollCount = s.xoffPollCount := by
  rw [tapRest_eq]; rfl
@[simp] theorem tapRest_now (s : State) (d : Dir) (l : List Byte) : (tapRest s d l).now = s.now := by
  rw [tapRest_eq]; rfl
@[simp] theorem tapRest_faultBitmap (s : State) (d : Dir) (l : List Byte) : (tapRest s d l).faultBitmap = s.faultBitmap := by
  rw [tapRest_eq]; rfl
@[simp] theorem tapRest_faultTime (s : State) (d : Dir) (l : List Byte) : (tapRest s d l).faultTime = s.faultTime := by
  rw [tapRest_eq]; rfl
@[simp] theorem tapRest_irqMasked (s : State) (d : Dir) (l : List Byte) : (tapRest s d l).irqMasked = s.irqMasked := by
  rw [tapRest_eq]; rfl
@[simp] theorem tapRest_port (s : State) (d : Dir) (l : List Byte) (q : Port) : (tapRest s d l).port q = s.port q := by
  rw [tapRest_eq]; rfl

@[simp] theorem tapHeader_prm (s : State) (d : Dir) (l : List Byte) : (tapHeader s d l).prm = s.prm := by
  rw [tapHeader_eq]; rfl
@[simp] theorem tapHeader_schedule (s : State) (d : Dir) (l : List Byte) : (tapHeader s d l).schedule = s.schedule := by
  rw [tapHeader_eq]; rfl
@[simp] theorem tapHeader_result (s : State) (d : Dir) (l : List Byte) : (tapHeader s d l).result = s.result := by
  rw [tapHeader_eq]; rfl
@[simp] theorem tapHeader_ports (s : State) (d : Dir) (l : List Byte) : (tapHeader s d l).ports = s.ports := by
  rw [tapHeader_eq]; rfl
@[simp] theorem tapHeader_extOwner (s : State) (d : Dir) (l : List Byte) : (tapHeader s d l).extOwner = s.extOwner := by
  rw [tapHeader_eq]; rfl
@[simp] theorem tapHeader_bypassMode (s : State) (d : Dir) (l : List Byte) : (tapHeader s d l).bypassMode = s.bypassMode := by
  rw [tapHeader_eq]; rfl
@[simp] theorem tapHeader_pg (s : State) (d : Dir) (l : List Byte) : (tapHeader s d l).pg = s.pg := by
  rw [tapHeader_eq]; rfl
@[simp] theorem tapHeader_xoffPollCount (s : State) (d : Dir) (l : List Byte) : (tapHeader s d l).xoffPollCount = s.xoffPollCount := by
  rw [tapHeader_eq]; rfl
@[simp] theorem tapHeader_now (s : State) (d : Dir) (l : List Byte) : (tapHeader s d l).now = s.now := by
  rw [tapHeader_eq]; rfl
@[simp] theorem tapHeader_faultBitmap (s : State) (d : Dir) (l : List Byte) : (tapHeader s d l).faultBitmap = s.faultBitmap := by
  rw [tapHeader_eq]; rfl
@[simp] theorem tapHeader_faultTime (s : State) (d : Dir) (l : List Byte) : (tapHeader s d l).faultTime = s.faultTime := by
  rw [tapHeader_eq]; rfl
@[simp] theorem tapHeader_irqMasked (s : State) (d : Dir) (l : List Byte) : (tapHeader s d l).irqMasked = s.irqMasked := by
  rw [tapHeader_eq]; rfl
@[simp] theorem tapHeader_port (s : State) (d : Dir) (l : List Byte) (q : Port) : (tapHeader s d l).port q = s.port q := by
  rw [tapHeader_eq]; rfl

@[simp] theorem endEvent_prm (s : State) (d : Dir) (r : PktInfo) (crc : Option Word16) : (endEvent s d r crc).prm = s.prm := by
  rw [endEvent_eq]; rfl
@[simp] theorem endEvent_schedule (s : State) (d : Dir) (r : PktInfo) (crc : Option Word16) : (endEvent s d r crc).schedule = s.schedule := by
  rw [endEvent_eq]; rfl
@[simp] theorem endEvent_result (s : State) (d : Dir) (r : PktInfo) (crc : Option Word16) : (endEvent s d r crc).result = s.result := by
  rw [endEvent_eq]; rfl
@[simp] theorem endEvent_ports (s : State) (d : Dir) (r : PktInfo) (crc : Option Word16) : (endEvent s d r crc).ports = s.ports := by
  rw [endEvent_eq]; rfl
@[simp] theorem endEvent_extOwner (s : State) (d : Dir) (r : PktInfo) (crc : Option Word16) : (endEvent s d r crc).extOwner = s.extOwner := by
  rw [endEvent_eq]; rfl
@[simp] theorem endEvent_bypassMode (s : State) (d : Dir) (r : PktInfo) (crc : Option Word16) : (endEvent s d r crc).bypassMode = s.bypassMode := by
  rw [endEvent_eq]; rfl
@[simp] theorem endEvent_pg (s : State) (d : Dir) (r : PktInfo) (crc : Option Word16) : (endEvent s d r crc).pg = s.pg := by
  rw [endEvent_eq]; rfl
@[simp] theorem endEvent_xoffPollCount (s : State) (d : Dir) (r : PktInfo) (crc : Option Word16) : (endEvent s d r crc).xoffPollCount = s.xoffPollCount := by
  rw [endEvent_eq]; rfl
@[simp] theorem endEvent_now (s : State) (d : Dir) (r : PktInfo) (crc : Option Word16) : (endEvent s d r crc).now = s.now := by
  rw [endEvent_eq]; rfl
@[simp] theorem endEvent_faultBitmap (s : State) (d : Dir) (r : PktInfo) (crc : Option Word16) : (endEvent s d r crc).faultBitmap = s.faultBitmap := by
  rw [endEvent_eq]; rfl
@[simp] theorem endEvent_faultTime (s : State) (d : Dir) (r : PktInfo) (crc : Option Word16) : (endEvent s d r crc).faultTime = s.faultTime := by
  rw [endEvent_eq]; rfl
@[simp] theorem endEvent_irqMasked (s : State) (d : Dir) (r : PktInfo) (crc : Option Word16) : (endEvent s d r crc).irqMasked = s.irqMasked := by
  rw [endEvent_eq]; rfl
@[simp] theorem endEvent_port (s : State) (d : Dir) (r : PktInfo) (crc : Option Word16) (q : Port) : (endEvent s d r crc).port q = s.port q := by
  rw [endEvent_eq]; rfl

@[simp] theorem latchLen_prm (s : State) (d : Dir) (n : Nat) : (latchLen s d n).prm = s.prm := by
  rw [latchLen_eq]; rfl
@[simp] theorem latchLen_schedule (s : State) (d : Dir) (n : Nat) : (latchLen s d n).schedule = s.schedule := by
  rw [latchLen_eq]; rfl
@[simp] theorem latchLen_result (s : State) (d : Dir) (n : Nat) : (latchLen s d n).result = s.result := by
  rw [latchLen_eq]; rfl
@[simp] theorem latchLen_ports (s : State) (d : Dir) (n : Nat) : (latchLen s d n).ports = s.ports := by
  rw [latchLen_eq]; rfl
@[simp] theorem latchLen_extOwner (s : State) (d : Dir) (n : Nat) : (latchLen s d n).extOwner = s.extOwner := by
  rw [latchLen_eq]; rfl
@[simp] theorem latchLen_bypassMode (s : State) (d : Dir) (n : Nat) : (latchLen s d n).bypassMode = s.bypassMode := by
  rw [latchLen_eq]; rfl
@[simp] theorem latchLen_pg (s : State) (d : Dir) (n : Nat) : (latchLen s d n).pg = s.pg := by
  rw [latchLen_eq]; rfl
@[simp] theorem latchLen_xoffPollCount (s : State) (d : Dir) (n : Nat) : (latchLen s d n).xoffPollCount = s.xoffPollCount := by
  rw [latchLen_eq]; rfl
@[simp] theorem latchLen_now (s : State) (d : Dir) (n : Nat) : (latchLen s d n).now = s.now := by
  rw [latchLen_eq]; rfl
@[simp] theorem latchLen_faultBitmap (s : State) (d : Dir) (n : Nat) : (latchLen s d n).faultBitmap = s.faultBitmap := by
  rw [latchLen_eq]; rfl
@[simp] theorem latchLen_faultTime (s : State) (d : Dir) (n : Nat) : (latchLen s d n).faultTime = s.faultTime := by
  rw [latchLen_eq]; rfl
@[simp] theorem latchLen_irqMasked (s : State) (d : Dir) (n : Nat) : (latchLen s d n).irqMasked = s.irqMasked := by
  rw [latchLen_eq]; rfl
@[simp] theorem latchLen_port (s : State) (d : Dir) (n : Nat) (q : Port) : (latchLen s d n).port q = s.port q := by
  rw [latchLen_eq]; rfl

/-! ## The supervisor and the recovery -/

@[simp] theorem resync_prm (s : State) (p : Port) (d : Dir) : (resync s p d).prm = s.prm := by
  unfold resync; split <;> (try split) <;> (try split) <;> simp
@[simp] theorem resync_schedule (s : State) (p : Port) (d : Dir) : (resync s p d).schedule = s.schedule := by
  unfold resync; split <;> (try split) <;> (try split) <;> simp
@[simp] theorem resync_result (s : State) (p : Port) (d : Dir) : (resync s p d).result = s.result := by
  unfold resync; split <;> (try split) <;> (try split) <;> simp
@[simp] theorem resync_bypassMode (s : State) (p : Port) (d : Dir) : (resync s p d).bypassMode = s.bypassMode := by
  unfold resync; split <;> (try split) <;> (try split) <;> simp
@[simp] theorem resync_pg (s : State) (p : Port) (d : Dir) : (resync s p d).pg = s.pg := by
  unfold resync; split <;> (try split) <;> (try split) <;> simp
@[simp] theorem resync_xoffPollCount (s : State) (p : Port) (d : Dir) : (resync s p d).xoffPollCount = s.xoffPollCount := by
  unfold resync; split <;> (try split) <;> (try split) <;> simp
@[simp] theorem resync_now (s : State) (p : Port) (d : Dir) : (resync s p d).now = s.now := by
  unfold resync; split <;> (try split) <;> (try split) <;> simp
@[simp] theorem resync_faultBitmap (s : State) (p : Port) (d : Dir) : (resync s p d).faultBitmap = s.faultBitmap := by
  unfold resync; split <;> (try split) <;> (try split) <;> simp
@[simp] theorem resync_faultTime (s : State) (p : Port) (d : Dir) : (resync s p d).faultTime = s.faultTime := by
  unfold resync; split <;> (try split) <;> (try split) <;> simp
@[simp] theorem resync_irqMasked (s : State) (p : Port) (d : Dir) : (resync s p d).irqMasked = s.irqMasked := by
  unfold resync; split <;> (try split) <;> (try split) <;> simp
@[simp] theorem resync_mon (s : State) (p : Port) (d : Dir) : (resync s p d).mon = s.mon := by
  unfold resync; split <;> (try split) <;> (try split) <;> simp

@[simp] theorem expire_prm (s : State) (p : Port) (d : Dir) : (expire s p d).prm = s.prm := by
  unfold expire; dsimp only; split <;> simp
@[simp] theorem expire_schedule (s : State) (p : Port) (d : Dir) : (expire s p d).schedule = s.schedule := by
  unfold expire; dsimp only; split <;> simp
@[simp] theorem expire_result (s : State) (p : Port) (d : Dir) : (expire s p d).result = s.result := by
  unfold expire; dsimp only; split <;> simp
@[simp] theorem expire_bypassMode (s : State) (p : Port) (d : Dir) : (expire s p d).bypassMode = s.bypassMode := by
  unfold expire; dsimp only; split <;> simp
@[simp] theorem expire_pg (s : State) (p : Port) (d : Dir) : (expire s p d).pg = s.pg := by
  unfold expire; dsimp only; split <;> simp
@[simp] theorem expire_xoffPollCount (s : State) (p : Port) (d : Dir) : (expire s p d).xoffPollCount = s.xoffPollCount := by
  unfold expire; dsimp only; split <;> simp
@[simp] theorem expire_now (s : State) (p : Port) (d : Dir) : (expire s p d).now = s.now := by
  unfold expire; dsimp only; split <;> simp
@[simp] theorem expire_irqMasked (s : State) (p : Port) (d : Dir) : (expire s p d).irqMasked = s.irqMasked := by
  unfold expire; dsimp only; split <;> simp
@[simp] theorem expire_mon (s : State) (p : Port) (d : Dir) : (expire s p d).mon = s.mon := by
  unfold expire; dsimp only; split <;> simp

/-- An expiry raises TimeoutError of its port, at the time of the tick (43_timeout.md R148). -/
theorem expire_faultBitmap (s : State) (p : Port) (d : Dir) :
    (expire s p d).faultBitmap = s.faultBitmap ||| (1 <<< faultBit .timeoutError p) := by
  unfold expire; dsimp only; split <;> simp

theorem expire_faultTime (s : State) (p : Port) (d : Dir) : (expire s p d).faultTime = s.now := by
  unfold expire; dsimp only; split <;> simp

/-- One iteration of the supervisor: an expiry, an advance, or nothing (43_timeout.md R148). -/
theorem superviseOne_cases (s : State) (p : Port) (d : Dir) :
    (Firing s p d ∧ superviseOne s p d = expire s p d) ∨
    (s.running p d = true ∧ (s.tmo p d).timeoutEnable = true ∧ s.timer p d + 1 < (s.tmo p d).timeoutPeriod ∧
      superviseOne s p d = s.setTimer p d (s.timer p d + 1)) ∨
    (¬ (s.running p d = true ∧ (s.tmo p d).timeoutEnable = true) ∧ superviseOne s p d = s) := by
  unfold superviseOne
  by_cases h : s.running p d = true ∧ (s.tmo p d).timeoutEnable = true
  · by_cases h' : (s.tmo p d).timeoutPeriod ≤ s.timer p d + 1
    · exact .inl ⟨⟨h.1, h.2, h'⟩, by simp [h, h']⟩
    · exact .inr (.inl ⟨h.1, h.2, by omega, by simp [h, h']⟩)
  · refine .inr (.inr ⟨h, ?_⟩)
    rw [if_neg (by simpa using h)]

@[simp] theorem superviseOne_prm (s : State) (p : Port) (d : Dir) : (superviseOne s p d).prm = s.prm := by
  obtain ⟨_, h⟩ | ⟨_, _, _, h⟩ | ⟨_, h⟩ := superviseOne_cases s p d <;> rw [h] <;> simp
@[simp] theorem superviseOne_schedule (s : State) (p : Port) (d : Dir) : (superviseOne s p d).schedule = s.schedule := by
  obtain ⟨_, h⟩ | ⟨_, _, _, h⟩ | ⟨_, h⟩ := superviseOne_cases s p d <;> rw [h] <;> simp
@[simp] theorem superviseOne_result (s : State) (p : Port) (d : Dir) : (superviseOne s p d).result = s.result := by
  obtain ⟨_, h⟩ | ⟨_, _, _, h⟩ | ⟨_, h⟩ := superviseOne_cases s p d <;> rw [h] <;> simp
@[simp] theorem superviseOne_bypassMode (s : State) (p : Port) (d : Dir) : (superviseOne s p d).bypassMode = s.bypassMode := by
  obtain ⟨_, h⟩ | ⟨_, _, _, h⟩ | ⟨_, h⟩ := superviseOne_cases s p d <;> rw [h] <;> simp
@[simp] theorem superviseOne_pg (s : State) (p : Port) (d : Dir) : (superviseOne s p d).pg = s.pg := by
  obtain ⟨_, h⟩ | ⟨_, _, _, h⟩ | ⟨_, h⟩ := superviseOne_cases s p d <;> rw [h] <;> simp
@[simp] theorem superviseOne_xoffPollCount (s : State) (p : Port) (d : Dir) : (superviseOne s p d).xoffPollCount = s.xoffPollCount := by
  obtain ⟨_, h⟩ | ⟨_, _, _, h⟩ | ⟨_, h⟩ := superviseOne_cases s p d <;> rw [h] <;> simp
@[simp] theorem superviseOne_now (s : State) (p : Port) (d : Dir) : (superviseOne s p d).now = s.now := by
  obtain ⟨_, h⟩ | ⟨_, _, _, h⟩ | ⟨_, h⟩ := superviseOne_cases s p d <;> rw [h] <;> simp
@[simp] theorem superviseOne_irqMasked (s : State) (p : Port) (d : Dir) : (superviseOne s p d).irqMasked = s.irqMasked := by
  obtain ⟨_, h⟩ | ⟨_, _, _, h⟩ | ⟨_, h⟩ := superviseOne_cases s p d <;> rw [h] <;> simp
@[simp] theorem superviseOne_mon (s : State) (p : Port) (d : Dir) : (superviseOne s p d).mon = s.mon := by
  obtain ⟨_, h⟩ | ⟨_, _, _, h⟩ | ⟨_, h⟩ := superviseOne_cases s p d <;> rw [h] <;> simp

@[simp] theorem supervisePort_prm (s : State) (p : Port) : (supervisePort s p).prm = s.prm := by
  simp [supervisePort]
@[simp] theorem supervisePort_schedule (s : State) (p : Port) : (supervisePort s p).schedule = s.schedule := by
  simp [supervisePort]
@[simp] theorem supervisePort_result (s : State) (p : Port) : (supervisePort s p).result = s.result := by
  simp [supervisePort]
@[simp] theorem supervisePort_bypassMode (s : State) (p : Port) : (supervisePort s p).bypassMode = s.bypassMode := by
  simp [supervisePort]
@[simp] theorem supervisePort_pg (s : State) (p : Port) : (supervisePort s p).pg = s.pg := by
  simp [supervisePort]
@[simp] theorem supervisePort_xoffPollCount (s : State) (p : Port) : (supervisePort s p).xoffPollCount = s.xoffPollCount := by
  simp [supervisePort]
@[simp] theorem supervisePort_now (s : State) (p : Port) : (supervisePort s p).now = s.now := by
  simp [supervisePort]
@[simp] theorem supervisePort_irqMasked (s : State) (p : Port) : (supervisePort s p).irqMasked = s.irqMasked := by
  simp [supervisePort]
@[simp] theorem supervisePort_mon (s : State) (p : Port) : (supervisePort s p).mon = s.mon := by
  simp [supervisePort]

@[simp] theorem supervise_prm (s : State)  : (supervise s).prm = s.prm := by
  simp [supervise, allPorts]
@[simp] theorem supervise_schedule (s : State)  : (supervise s).schedule = s.schedule := by
  simp [supervise, allPorts]
@[simp] theorem supervise_result (s : State)  : (supervise s).result = s.result := by
  simp [supervise, allPorts]
@[simp] theorem supervise_bypassMode (s : State)  : (supervise s).bypassMode = s.bypassMode := by
  simp [supervise, allPorts]
@[simp] theorem supervise_pg (s : State)  : (supervise s).pg = s.pg := by
  simp [supervise, allPorts]
@[simp] theorem supervise_xoffPollCount (s : State)  : (supervise s).xoffPollCount = s.xoffPollCount := by
  simp [supervise, allPorts]
@[simp] theorem supervise_now (s : State)  : (supervise s).now = s.now := by
  simp [supervise, allPorts]
@[simp] theorem supervise_irqMasked (s : State)  : (supervise s).irqMasked = s.irqMasked := by
  simp [supervise, allPorts]
@[simp] theorem supervise_mon (s : State)  : (supervise s).mon = s.mon := by
  simp [supervise, allPorts]

@[simp] theorem recoverPort_prm (s : State) (p : Port) : (recoverPort s p).prm = s.prm := by
  simp [recoverPort]
@[simp] theorem recoverPort_schedule (s : State) (p : Port) : (recoverPort s p).schedule = s.schedule := by
  simp [recoverPort]
@[simp] theorem recoverPort_result (s : State) (p : Port) : (recoverPort s p).result = s.result := by
  simp [recoverPort]
@[simp] theorem recoverPort_bypassMode (s : State) (p : Port) : (recoverPort s p).bypassMode = s.bypassMode := by
  simp [recoverPort]
@[simp] theorem recoverPort_pg (s : State) (p : Port) : (recoverPort s p).pg = s.pg := by
  simp [recoverPort]
@[simp] theorem recoverPort_xoffPollCount (s : State) (p : Port) : (recoverPort s p).xoffPollCount = s.xoffPollCount := by
  simp [recoverPort]
@[simp] theorem recoverPort_now (s : State) (p : Port) : (recoverPort s p).now = s.now := by
  simp [recoverPort]
@[simp] theorem recoverPort_faultBitmap (s : State) (p : Port) : (recoverPort s p).faultBitmap = s.faultBitmap := by
  simp [recoverPort]
@[simp] theorem recoverPort_faultTime (s : State) (p : Port) : (recoverPort s p).faultTime = s.faultTime := by
  simp [recoverPort]
@[simp] theorem recoverPort_irqMasked (s : State) (p : Port) : (recoverPort s p).irqMasked = s.irqMasked := by
  simp [recoverPort]
@[simp] theorem recoverPort_mon (s : State) (p : Port) : (recoverPort s p).mon = s.mon := by
  simp [recoverPort]

@[simp] theorem recovery_prm (s : State)  : (recovery s).prm = s.prm := by
  simp [recovery, allPorts]
@[simp] theorem recovery_schedule (s : State)  : (recovery s).schedule = s.schedule := by
  simp [recovery, allPorts]
@[simp] theorem recovery_result (s : State)  : (recovery s).result = s.result := by
  simp [recovery, allPorts]
@[simp] theorem recovery_bypassMode (s : State)  : (recovery s).bypassMode = s.bypassMode := by
  simp [recovery, allPorts]
@[simp] theorem recovery_pg (s : State)  : (recovery s).pg = s.pg := by
  simp [recovery, allPorts]
@[simp] theorem recovery_xoffPollCount (s : State)  : (recovery s).xoffPollCount = s.xoffPollCount := by
  simp [recovery, allPorts]
@[simp] theorem recovery_now (s : State)  : (recovery s).now = s.now := by
  simp [recovery, allPorts]
@[simp] theorem recovery_faultBitmap (s : State)  : (recovery s).faultBitmap = s.faultBitmap := by
  simp [recovery, allPorts]
@[simp] theorem recovery_faultTime (s : State)  : (recovery s).faultTime = s.faultTime := by
  simp [recovery, allPorts]
@[simp] theorem recovery_irqMasked (s : State)  : (recovery s).irqMasked = s.irqMasked := by
  simp [recovery, allPorts]
@[simp] theorem recovery_mon (s : State)  : (recovery s).mon = s.mon := by
  simp [recovery, allPorts]

/-- The ports after one port's part of the recovery: its own is as after a port reset (45_flowcontrol.md R191). -/
theorem port_recoverPort (s : State) (p q : Port) : (recoverPort s p).port q = (portReset s p).port q := by
  have e : ∀ r, (setSleepReq s p true).rxp r = s.rxp r := fun r => by
    simp only [State.rxp, port_setSleepReq]; split <;> simp_all
  have e' : ∀ r, ((setSleepReq s p true).port r).tmo = (s.port r).tmo := fun r => by
    simp only [port_setSleepReq]; split <;> simp_all
  rw [recoverPort, port_setSleepReq]
  simp only [port_portReset, e, e', setSleepReq_extOwner, State.tmo, State.timer, State.txFifo, State.rxFifo]
  by_cases h : q = p
  · subst h; simp [port_setSleepReq]
  · simp [h, port_setSleepReq]

theorem recoverPort_extOwner (s : State) (p : Port) :
    (recoverPort s p).extOwner = if s.extOwner ≠ none ∧ s.extOwner = asHost p then none else s.extOwner := by
  rw [recoverPort, setSleepReq_extOwner, portReset_extOwner, setSleepReq_extOwner]

end Sys2Proof.Machine
end

