-- ==== Sys2Proof/Laws/Step.lean ====
section
/-!
SUPPORT. What a step can be, and what a step of the hub core can be: one inversion lemma for each, to be cited instead of
unfolding `step` and `coreStep`.
-/

namespace Sys2Proof.Machine

/-- A step that answers a next state had no event, or ran the event its word decodes to, or returned the word's error. -/
theorem step_cases {s t : State} (h : step s = .next t) :
    (s.schedule = [] ∧ t = s) ∨
    ∃ w rest, s.schedule = w :: rest ∧
      ((∃ i, decodeEvent w = .instr i ∧
          exec (resolve i { s with schedule := rest }) { s with schedule := rest } = .next t) ∨
        ∃ c, decodeEvent w = .err c ∧ t = { s with schedule := rest, result := .err c }) := by
  unfold step at h
  cases hs : s.schedule with
  | nil => rw [hs] at h; exact .inl ⟨rfl, by cases h; rfl⟩
  | cons w rest =>
    rw [hs] at h
    refine .inr ⟨w, rest, rfl, ?_⟩
    simp only [runWord] at h
    cases hd : decodeEvent w with
    | instr i => rw [hd] at h; exact .inl ⟨i, rfl, h⟩
    | err c => rw [hd] at h; exact .inr ⟨c, rfl, by cases h; rfl⟩
    | notAnEvent => rw [hd] at h; cases h

/-- A property that every event keeps, and that reads neither the schedule nor the result, is kept by a step. -/
theorem step_keeps {P : State → Prop} (hP : ∀ s t, P s → { t with schedule := s.schedule, result := s.result } = s → P t)
    (hexec : ∀ i s t, P s → exec i s = .next t → P t) {s t : State} (hs : P s) (h : step s = .next t) : P t := by
  obtain ⟨-, rfl⟩ | ⟨w, rest, hw, ⟨i, -, hi⟩ | ⟨c, -, rfl⟩⟩ := step_cases h
  · exact hs
  · exact hexec _ _ _ (hP s { s with schedule := rest } hs rfl) hi
  · exact hP s _ hs rfl

/-- The event of a hub-core step that is enabled, or not. -/
theorem exec_coreRx (s : State) (p : Port) : exec (.coreRx p) s = replyStep s (coreStep s p) := rfl

/-- A step of the hub core: in bypass, a host's trailer, or one byte at hand (42_framer.md R129). -/
theorem coreStep_cases {s t : State} {p : Port} (h : coreStep s p = some t) :
    s.pgState ≠ .idle ∧
    ((s.bypassMode = true ∧ bypassStep s p = some t) ∨
      (s.bypassMode = false ∧ ∃ g, asHost p = some g ∧ (s.rxp p).phase = .crc ∧ trailerStep s g = some t) ∨
      (s.bypassMode = false ∧ (asHost p = none ∨ (s.rxp p).phase ≠ .crc) ∧
        ∃ b rest, s.rxFifo p = b :: rest ∧ byteStep s p b = some t)) := by
  unfold coreStep at h
  split at h
  · cases h
  next hi =>
    refine ⟨hi, ?_⟩
    cases hb : s.bypassMode
    · rw [hb] at h
      simp only [Bool.false_eq_true, if_false] at h
      unfold framedStep at h
      split at h
      next g hg hph => exact .inr (.inl ⟨rfl, g, hg, hph, h⟩)
      next hne =>
        cases hr : s.rxFifo p with
        | nil => rw [hr] at h; cases h
        | cons b rest =>
          rw [hr] at h
          refine .inr (.inr ⟨rfl, ?_, b, rest, rfl, h⟩)
          by_cases hp : asHost p = none
          · exact .inl hp
          · obtain ⟨g, hg⟩ := Option.ne_none_iff_exists'.mp hp
            exact .inr fun hph => hne g hg hph
    · rw [hb] at h
      exact .inl ⟨rfl, by simpa using h⟩

/-- The nine frame-start rows are one event over the host and the shape. -/
theorem exec_typeInstr (h : HostPort) (sh : Shape) (src : FrameSource) (b : Byte) (s : State) :
    exec (typeInstr h sh src b) s = typeEvent s src b h sh := by
  cases h <;> cases sh <;> rfl

/-- The three escapes are one event over the host. -/
theorem exec_escapeInstr (h : HostPort) (s : State) :
    exec (escapeInstr h) s =
      firstByteEvent s .ext (0xF0 + BitVec.ofNat 8 (portNum (hostPort h))) (.escape h)
        (escapeStep s (0xF0 + BitVec.ofNat 8 (portNum (hostPort h))) h) := by
  cases h <;> rfl

/-- The event of a first-byte class is the given step, or does not happen. -/
theorem firstByteEvent_cases (s : State) (p : Port) (b : Byte) (c : FirstByteClass) (t : Option State) :
    (s.atBoundaryWith p b = true ∧ classify s.prm.typeMap p b = c ∧ firstByteEvent s p b c t = replyStep s t) ∨
    (¬ (s.atBoundaryWith p b = true ∧ classify s.prm.typeMap p b = c) ∧
      firstByteEvent s p b c t = .next { s with result := .notEnabled }) := by
  unfold firstByteEvent
  split
  next h => exact .inl ⟨h.1, h.2, rfl⟩
  next h => exact .inr ⟨h, rfl⟩

/-- The hub core may take `b` as a first byte, in words. -/
theorem atBoundaryWith_iff (s : State) (p : Port) (b : Byte) : s.atBoundaryWith p b = true ↔ AtFirstByte s p b := by
  unfold State.atBoundaryWith State.gateOpen
  simp only [Bool.and_eq_true, decide_eq_true_eq, Bool.not_eq_true']
  exact ⟨fun ⟨⟨⟨a, c⟩, d⟩, e⟩ => ⟨⟨a, c, e⟩, d⟩, fun h => ⟨⟨⟨h.gate, h.framed⟩, h.boundary⟩, h.head⟩⟩

end Sys2Proof.Machine
end

