-- ==== Sys2Proof/Tests/Slice0.lean ====
section
/-!
SUPPORT. The model's own tests. Expected values are taken from the worked examples of the rules named, or worked out by
hand from the tables of 30_encoding.md. The `witness_…` theorems show, for each statement of the Obligations file that has
hypotheses, a state and operands that meet them, clause by clause at the ends of the ranges.
-/

namespace Sys2Proof.Tests

open Sys2Proof.Machine

/-! ## Well-formedness -/

/-- One ill-formed term for each check of `Instr.wellFormed` on an event word. -/
def illFormed : List Instr :=
  [.setTrx .h0 .none, .clearTrx .h1 .none, .configLoopback .h0 .none true, .configLoopback .ext .both true,
    .configBaud .h0 6, .setDma .h2 .none true, .configTimeout .h0 .none true true 10, .configTimeout .h0 .rx true true 0,
    .monConfig 3 false false, .monRead .both false 0, .monRead .none false 0, .monRead .tx true 1]

/-- One ill-formed term for each first-byte class that has an operand. -/
def illFormedFirstBytes : List Instr :=
  [.typeH0B .external 0x02, .typeH0A .owner 0x01, .typeH0C .external 0x02, .typeH1B .external 0x42,
    .typeH1A .owner 0x41, .typeH1C .external 0x04, .typeH2B .owner 0x01, .typeH2A .external 0x81,
    .typeH2C .external 0x84, .undefinedFromExt 0x02, .undefinedFromExt 0xFF, .undefinedFromHost .h0 0x02]

theorem test_ill_formed_terms_are_refused : ∀ i ∈ illFormed, i.wellFormed defaultTypeMap = false := by decide

theorem test_ill_formed_first_bytes_are_refused :
    ∀ i ∈ illFormedFirstBytes, i.wellFormed defaultTypeMap = false := by decide

theorem test_ends_of_ranges_are_well_formed :
    ∀ i ∈ ([.configBaud .h0 5, .configTimeout .ext .both false false 1, .monConfig 2 true true, .monRead .rx true 0,
        .monRead .rx false 15, .typeH0B .external 0x01, .typeH2C .owner 0x83, .undefinedFromExt 0x00,
        .undefinedFromHost .h1 0xFF] : List Instr),
      i.wellFormed defaultTypeMap = true := by decide

/-! ## Decoding: words written out from 30_encoding.md R71 to R74 -/

/-- op in bits 31:24, port in 23:20, dir in 19:16, arg in 15:0. -/
def eventWords1 : List (Word32 × Instr) :=
  [(0x01F00000, .openHub), (0x02F00000, .closeHub), (0x03130000, .setTrx .h1 .both), (0x04210000, .clearTrx .h2 .tx),
    (0x05000000, .isReady .h0), (0x06010001, .configLoopback .h0 .tx true), (0x07F00001, .setBypass true),
    (0x08300003, .configBaud .ext 3), (0x09020001, .setDma .h0 .rx true),
    (0x0A02C00A, .configTimeout .h0 .rx true true 10)]

/-- The next ten rows. -/
def eventWords2 : List (Word32 × Instr) :=
  [(0x0B200000, .resetPort .h2), (0x1010005A, .writeByte .h1 0x5A), (0x11300000, .readByte .ext),
    (0x12000000, .isTxReady .h0), (0x13100000, .isRxReady .h1), (0x20F00000, .irqMask), (0x21F00000, .irqUnmask),
    (0x22F00000, .readFaults), (0x23F08001, .clearFaults 0x8001), (0x30F00001, .monEnable true)]

/-- The last nine rows. -/
def eventWords3 : List (Word32 × Instr) :=
  [(0x31F0000D, .monConfig 1 true true), (0x32F20018, .monRead .rx true 8), (0x80000002, .lineIn .h0 0x02),
    (0x81300000, .lineOut .ext), (0x82100000, .lineXoff .h1), (0x83100000, .lineXon .h1), (0x84F00002, .tick .lowPower),
    (0x85200000, .restoreFault .h2), (0xC0300000, .coreRx .ext)]

theorem test_event_words_decode :
    (∀ x ∈ eventWords1, decodeEvent x.1 = .instr x.2) ∧ (∀ x ∈ eventWords2, decodeEvent x.1 = .instr x.2) ∧
    ∀ x ∈ eventWords3, decodeEvent x.1 = .instr x.2 := by decide

theorem test_event_words_encode :
    (∀ x ∈ eventWords1, encode x.2 = .event x.1) ∧ (∀ x ∈ eventWords2, encode x.2 = .event x.1) ∧
    ∀ x ∈ eventWords3, encode x.2 = .event x.1 := by decide

/-- 30_encoding.md R75, R76: the first error in the order op, port, dir, arg. -/
theorem test_errors_in_order :
    decodeEvent 0x00000000 = .err .invalidOp ∧ decodeEvent 0x0C000000 = .err .invalidOp ∧
    decodeEvent 0x86000000 = .err .invalidOp ∧ decodeEvent 0x01010001 = .err .invalidPort ∧
    decodeEvent 0x01F10001 = .err .invalidDirection ∧ decodeEvent 0x01F00001 = .err .invalidArg ∧
    decodeEvent 0x03300000 = .err .invalidPort ∧ decodeEvent 0x03040000 = .err .invalidDirection ∧
    decodeEvent 0x08000008 = .err .invalidArg ∧ decodeEvent 0x80000100 = .notAnEvent ∧
    decodeEvent 0x84F00003 = .notAnEvent ∧ decodeEvent 0xC0400000 = .notAnEvent := by decide

/-- First bytes from External under the default TYPE_MAP (30_encoding.md R64, R67, R68). -/
theorem test_first_bytes_from_external :
    decodeFirstByte defaultTypeMap .ext 0xFF = .keepalive ∧ decodeFirstByte defaultTypeMap .ext 0xF0 = .escH0 ∧
    decodeFirstByte defaultTypeMap .ext 0xF1 = .escH1 ∧ decodeFirstByte defaultTypeMap .ext 0xF2 = .escH2 ∧
    decodeFirstByte defaultTypeMap .ext 0x01 = .typeH0B .external 0x01 ∧
    decodeFirstByte defaultTypeMap .ext 0x02 = .typeH0A .external 0x02 ∧
    decodeFirstByte defaultTypeMap .ext 0x03 = .typeH0C .external 0x03 ∧
    decodeFirstByte defaultTypeMap .ext 0x41 = .typeH1B .external 0x41 ∧
    decodeFirstByte defaultTypeMap .ext 0x42 = .typeH1A .external 0x42 ∧
    decodeFirstByte defaultTypeMap .ext 0x43 = .typeH1C .external 0x43 ∧
    decodeFirstByte defaultTypeMap .ext 0x81 = .typeH2B .external 0x81 ∧
    decodeFirstByte defaultTypeMap .ext 0x82 = .typeH2A .external 0x82 ∧
    decodeFirstByte defaultTypeMap .ext 0x83 = .typeH2C .external 0x83 ∧
    decodeFirstByte defaultTypeMap .ext 0x67 = .undefinedFromExt 0x67 ∧
    decodeFirstByte defaultTypeMap .ext 0x00 = .undefinedFromExt 0x00 := by decide

/-- First bytes from the hosts (30_encoding.md R65): the types of the others and the escapes are undefined. -/
theorem test_first_bytes_from_hosts :
    decodeFirstByte defaultTypeMap .h0 0x02 = .typeH0A .owner 0x02 ∧
    decodeFirstByte defaultTypeMap .h1 0x41 = .typeH1B .owner 0x41 ∧
    decodeFirstByte defaultTypeMap .h2 0x83 = .typeH2C .owner 0x83 ∧
    decodeFirstByte defaultTypeMap .h1 0x02 = .undefinedFromHost .h1 0x02 ∧
    decodeFirstByte defaultTypeMap .h0 0xFF = .undefinedFromHost .h0 0xFF ∧
    decodeFirstByte defaultTypeMap .h2 0xF2 = .undefinedFromHost .h2 0xF2 := by decide

theorem test_table_words :
    decodeTableWord 32 0x07F00000 = some (.setBypass false) ∧ decodeTableWord 8 0x42 = some (.typeH1A .external 0x42) ∧
    decodeTableWord 32 0x0C000000 = none := by decide

/-! ## Small states -/

/-- The state an event leaves. -/
def after (i : Instr) (s : State) : State :=
  match exec i s with
  | .next t => t
  | .fault _ => s
  | .refused _ => s

/-- The power gate in state `g`, with every host active. -/
def gate (g : PgState) : PowerGate :=
  { PowerGate.initial with
    pgState := g, trxReq := .all (.all true), clkReq := .highSpeed, clkSrc := .highSpeed, opened := true }

/-- An open hub in CKON. -/
def awake : State := { State.reset with pg := gate .ckon }

/-- `awake` with the bytes `l` in `rxFifo[p]`. -/
def received (p : Port) (l : List Byte) : State := awake.setRxFifo p l

/-- `s` with the parser of `p` in phase `ph`, `hdr` held, `n` payload bytes to come, CRC `c`. -/
def parsing (s : State) (p : Port) (ph : Phase) (hdr : List Byte) (n : Nat) (c : Word16) : State :=
  s.setParser p { s.rxp p with phase := ph, hdr := hdr, remain := n, crc := c }

/-- `H0` in the middle of the worked example's frame: three payload bytes to come (42_framer.md R121). -/
def sending (l : List Byte) : State := (parsing (received .h0 l) .h0 .payload [] 3 0x00DC).setOwner (some .h0)

/-- External in the trailer of a frame for `H0` whose CRC is 0x0692. -/
def checking (t : List Byte) (b : Byte) : State :=
  (received .ext [b]).setParser .ext { Parser.initial .h0 with phase := .crc, crc := 0x0692, trailer := t }

/-- The TX FIFO of `p` holding `n` bytes. -/
def crowded (s : State) (p : Port) (n : Nat) : State := s.setTxFifo p (List.replicate n 0)

/-! ## Control operations, one step each -/

/-- 44_powergate.md R160. -/
theorem test_open : (after .openHub { State.reset with irqMasked := true }).irqMasked = false ∧
    (after .openHub State.reset).opened = true := by decide

/-- 44_powergate.md R161. -/
theorem test_close : (after .closeHub awake).pgState = .idle ∧ (after .closeHub awake).pg.clkSrc = .lowPower ∧
    (after .closeHub awake).opened = false := by decide

/-- 44_powergate.md R162, its example, and R165. -/
theorem test_set_trx : (after (.setTrx .h0 .both) (after .openHub State.reset)).pgState = .prepare ∧
    (after (.setTrx .h0 .both) State.reset).result = .err .notOpen ∧
    (after (.setTrx .h0 .tx) { awake with pg := { gate .wait with settleCnt := 1 } }).pgState = .ready := by decide

/-- 44_powergate.md R163, its example. -/
theorem test_clear_trx :
    (after (.clearTrx .h0 .both)
      { awake with pg := { gate .ready with trxReq := ⟨.all true, .all false, .all false⟩ } }).pgState = .wait ∧
    (after (.clearTrx .h0 .both) { awake with pg := gate .ready }).pgState = .ready := by decide

/-- 44_powergate.md R164. -/
theorem test_is_ready : (after (.isReady .h0) { awake with pg := gate .ready }).result = .okValue 1 ∧
    (after (.isReady .h0) awake).result = .okValue 0 := by decide

/-- 40_port_fifo.md R95, its example; disabling the other wiring changes nothing. -/
theorem test_config_loopback : ((after (.configLoopback .h0 .tx true) State.reset).port .h0).loop = .selfRx ∧
    ((after (.configLoopback .h0 .rx false) (after (.configLoopback .h0 .tx true) State.reset)).port .h0).loop =
      .selfRx ∧
    (after (.configLoopback .h0 .both true) State.reset).result = .err .invalidDirection := by decide

/-- 42_framer.md R130: the frame in progress ends, its bytes stay. -/
theorem test_set_bypass : (after (.setBypass true) (sending [0x66])).extOwner = none ∧
    ((after (.setBypass true) (sending [0x66])).rxp .h0).phase = .boundary ∧
    (after (.setBypass true) (sending [0x66])).rxFifo .h0 = [0x66] := by decide

/-- 40_port_fifo.md R89, its example. -/
theorem test_config_baud : ((after (.configBaud .ext 3) State.reset).port .ext).baudRateIndex = 3 ∧
    (after (.configBaud .ext 5) State.reset).result = .err .unsupportedRate ∧
    (after (.configBaud .ext 6) State.reset).result = .err .invalidArg := by decide

/-- 40_port_fifo.md R90. -/
theorem test_set_dma : ((after (.setDma .h1 .rx true) State.reset).port .h1).dmaRxEnabled = true ∧
    ((after (.setDma .h1 .rx true) State.reset).port .h1).dmaTxEnabled = false := by decide

/-- 43_timeout.md R145, its example. -/
theorem test_config_timeout :
    ((after (.configTimeout .h0 .rx true true 10) State.reset).tmo .h0 .rx).resyncEnabled = true ∧
    ((after (.configTimeout .h0 .rx true true 10) State.reset).tmo .h0 .tx).resyncEnabled = false ∧
    (after (.configTimeout .h0 .rx true true 0) State.reset).result = .err .invalidArg := by decide

/-- 42_framer.md R133: bytes of the port are dropped, its counters stay. -/
theorem test_reset_port : (after (.resetPort .h0) (sending [0x66])).rxFifo .h0 = [] ∧
    (after (.resetPort .h0) (sending [0x66])).extOwner = none ∧
    (after (.resetPort .h1) (sending [0x66])).extOwner = some .h0 := by decide

/-- 40_port_fifo.md R85, its example; in IDLE the byte is not taken and the result is still Ok. -/
theorem test_write_byte : (after (.writeByte .h1 0x5A) awake).txFifo .h1 = [0x5A] ∧
    (after (.writeByte .h1 0x5A) State.reset).txFifo .h1 = [] ∧
    (after (.writeByte .h1 0x5A) State.reset).result = .ok := by decide

/-- 40_port_fifo.md R86, its example. -/
theorem test_read_byte : (after (.readByte .ext) (received .ext [0xFF, 0x02])).result = .okValue 0xFF ∧
    (after (.readByte .ext) (received .ext [0xFF, 0x02])).rxFifo .ext = [0x02] ∧
    (after (.readByte .ext) State.reset).result = .okNone := by decide

/-- 40_port_fifo.md R87: a full FIFO and IDLE are not ready. -/
theorem test_is_tx_ready : (after (.isTxReady .h0) (crowded awake .h0 63)).result = .okValue 1 ∧
    (after (.isTxReady .h0) (crowded awake .h0 64)).result = .okValue 0 ∧
    (after (.isTxReady .h0) State.reset).result = .okValue 0 := by decide

/-- 40_port_fifo.md R88. -/
theorem test_is_rx_ready : (after (.isRxReady .h0) (received .h0 [1])).result = .okValue 1 ∧
    (after (.isRxReady .h0) awake).result = .okValue 0 := by decide

/-- 60_exceptions.md R224, R225. -/
theorem test_irq_mask : (after .irqMask awake).irqMasked = true ∧
    (after .irqUnmask (after .irqMask awake)).irqMasked = false := by decide

/-- 60_exceptions.md R226, R227, with the values of R239. -/
theorem test_faults : (after .readFaults { awake with faultBitmap := 0x0080 }).result = .okValue 0x0080 ∧
    (after (.clearFaults 0x0080) { awake with faultBitmap := 0x0280 }).faultBitmap = 0x0200 := by decide

/-- 46_monitor.md R200: enabling clears, disabling keeps. -/
theorem test_mon_enable :
    (after (.monEnable true) { awake with mon := { Monitor.initial with dirs := .all { MonDir.cleared with monCnt := 3 } } }).mon.dirs.tx.monCnt = 0 ∧
    (after (.monEnable false) { awake with mon := { Monitor.initial with monEnabled := true, dirs := .all { MonDir.cleared with monCnt := 3 } } }).mon.dirs.tx.monCnt = 3 := by
  decide

/-- 46_monitor.md R201. -/
theorem test_mon_config : (after (.monConfig 2 true false) awake).mon.monMode = .crcResult ∧
    (after (.monConfig 3 true false) awake).result = .err .invalidArg := by decide

/-- 46_monitor.md R207, the value of R209: origin 1, escape 0, length 3. -/
theorem test_mon_read :
    (after (.monRead .tx false 0) { awake with mon := { Monitor.initial with
      dirs := .all (MonDir.cleared.record { origin := 1, escape := false, length := 3 }) } }).result =
      .okValue 0x00020003 ∧
    (after (.monRead .tx true 0) { awake with mon := { Monitor.initial with
      dirs := .all (MonDir.cleared.record { origin := 1, escape := false, length := 3 }) } }).result = .okValue 1 ∧
    (after (.monRead .tx false 4) awake).result = .err .invalidArg := by decide

/-! ## Agents, one step each -/

/-- 40_port_fifo.md R91, its example, and R92. -/
theorem test_line_in : (after (.lineIn .h0 0x02) awake).rxFifo .h0 = [0x02] ∧
    ((after (.lineIn .h0 0x02) awake).port .h0).rxByteCount = 1 ∧
    (after (.lineIn .h0 0x02) State.reset).rxFifo .h0 = [] ∧
    ((after (.lineIn .h0 0x02) (received .h0 (List.replicate 64 0))).port .h0).rxOverrun = true := by decide

/-- 40_port_fifo.md R93, its example. -/
theorem test_line_out : (after (.lineOut .ext) (awake.setTxFifo .ext [0x92, 0x06])).result = .left 0x92 .off ∧
    (after (.lineOut .ext) (awake.setTxFifo .ext [0x92, 0x06])).txFifo .ext = [0x06] ∧
    (after (.lineOut .ext) awake).result = .notEnabled := by decide

/-- 45_flowcontrol.md R187, its example: the transmitter is held. -/
theorem test_line_xoff : (after (.lineXoff .h1) (awake.setTxFifo .h1 [0xF1])).wsendXoff .h1 = true ∧
    (after (.lineOut .h1) (after (.lineXoff .h1) (awake.setTxFifo .h1 [0xF1]))).result = .notEnabled := by decide

/-- 45_flowcontrol.md R188. -/
theorem test_line_xon : (after (.lineXon .h1) (after (.lineXoff .h1) awake)).wsendXoff .h1 = false ∧
    ((after (.lineXon .h1) (after (.lineXoff .h1) awake)).port .h1).xoffDetected = false := by decide

/-- 44_powergate.md R170: an acknowledged acquire. -/
theorem test_tick_ready : (after (.tick .highSpeed) awake).pgState = .ready ∧ (after (.tick .none) awake).pgState = .ckon ∧
    (after (.tick .none) awake).pg.clkRetry = 1 ∧ (after (.tick .none) awake).now = 1 := by decide

/-- 43_timeout.md R148: a timer that reaches its period raises TimeoutError of its port. -/
theorem test_tick_timeout : (after (.tick .none) ((sending []).setTimer .h0 .rx 9)).faultBitmap = 0x0100 ∧
    ((after (.tick .none) ((sending []).setTimer .h0 .rx 9)).tmo .h0 .rx).timeoutCount = 1 := by decide

/-- 60_exceptions.md R222. -/
theorem test_restore_fault : (after (.restoreFault .h2) State.reset).faultBitmap = 0x4000 ∧
    (after (.restoreFault .ext) { State.reset with now := 7 }).faultTime = 7 := by decide

/-! ## The hub core -/

/-- 42_framer.md R121 and R122, their examples. -/
theorem test_core_header_and_payload :
    (after (.coreRx .h0) (parsing (received .h0 [0]) .h0 .header [0x02, 0, 0, 3] 0 0xFFFF)).txFifo .ext = [0x02, 0, 0, 3, 0] ∧
    ((after (.coreRx .h0) (parsing (received .h0 [0]) .h0 .header [0x02, 0, 0, 3] 0 0xFFFF)).rxp .h0).crc = 0x00DC ∧
    (after (.coreRx .h0) (sending [0x66])).txFifo .ext = [0x66] ∧
    ((after (.coreRx .h0) (sending [0x66])).rxp .h0).crc = 0xD060 := by decide +kernel

/-- 42_framer.md R124 and R127, their examples: the trailer 92 06, and a trailer 92 07 that does not match. -/
theorem test_core_trailers :
    (after (.coreRx .h0) (parsing (sending []) .h0 .crc [] 0 0x0692)).txFifo .ext = [0x92, 0x06] ∧
    (after (.coreRx .ext) (checking [0x92] 0x07)).faultBitmap = 0x0001 ∧
    ((after (.coreRx .ext) (checking [0x92] 0x07)).port .h0).crcErrCount = 1 ∧
    (after (.coreRx .ext) (checking [0x92] 0x06)).faultBitmap = 0 := by decide

/-- 42_framer.md R116, its example. -/
theorem test_keepalive : (after .keepalive (received .ext [0xFF])).rxFifo .ext = [] ∧
    (after .keepalive awake).result = .notEnabled := by decide

/-- 42_framer.md R117, its example. -/
theorem test_escapes : (after .escH0 (received .ext [0xF0])).txFifo .h0 = [0xF0] ∧
    (after .escH1 (received .ext [0xF1])).txFifo .h1 = [0xF1] ∧
    (after .escH2 (received .ext [0xF2])).txFifo .h2 = [0xF2] ∧
    (after .escH1 (received .ext [0xF2])).result = .notEnabled := by decide

/-- 42_framer.md R115: the shape and the destination of each row. -/
theorem test_frame_starts :
    ((after (.typeH0A .owner 0x02) (received .h0 [0x02])).rxp .h0) =
      { Parser.initial .ext with phase := .header, hdr := [0x02], shape := .a } ∧
    ((after (.typeH0B .external 0x01) (received .ext [0x01])).rxp .ext).dest = .h0 ∧
    ((after (.typeH0C .external 0x03) (received .ext [0x03])).rxp .ext).shape = .c ∧
    ((after (.typeH1B .external 0x41) (received .ext [0x41])).rxp .ext).dest = .h1 ∧
    ((after (.typeH1A .owner 0x42) (received .h1 [0x42])).rxp .h1).hdr = [0x42] ∧
    ((after (.typeH1C .external 0x43) (received .ext [0x43])).rxp .ext).shape = .c ∧
    ((after (.typeH2B .external 0x81) (received .ext [0x81])).rxp .ext).dest = .h2 ∧
    ((after (.typeH2A .external 0x82) (received .ext [0x82])).rxp .ext).shape = .a ∧
    ((after (.typeH2C .owner 0x83) (received .h2 [0x83])).rxp .h2).dest = .ext := by decide

/-- 42_framer.md R118, R119, their examples. -/
theorem test_undefined_bytes :
    (after (.undefinedFromExt 0x67) (received .ext [0x67])).txFifo .h0 = [0x67] ∧
    (after (.undefinedFromExt 0x67) (received .ext [0x67])).faultBitmap = 0x0080 ∧
    (after (.undefinedFromHost .h1 0x02) (received .h1 [0x02])).txFifo .ext = [0x02] ∧
    (after (.undefinedFromHost .h1 0x02) (received .h1 [0x02])).faultBitmap = 0x0020 := by decide

/-! ## The host's view -/

/-- The very next step runs the row. -/
theorem test_fetch_event_word : (match step (State.reset.withFetchWord 32 0x01F00000) with
    | .next t => t.opened && decide (t.schedule = [])
    | .fault _ => false
    | .refused _ => false) = true := by decide

theorem test_fetch_first_byte : (match step (State.reset.withFetchWord 8 0x42) with
    | .next t => decide ((t.rxp .ext).hdr = [0x42]) && decide ((t.rxp .ext).dest = .h1)
    | .fault _ => false
    | .refused _ => false) = true := by decide

/-! ## Witnesses: states and operands that meet the hypotheses of the statements -/

/-- The default parameters meet 00_scope.md R4. -/
theorem witness_well_formed_parameters : Params.default.Wf := by decide

/-- `H0` in the middle of its frame, a LINE_IN next in the schedule. -/
def busy : State := { sending [0x66] with schedule := [0x80000002] }

/-- The invariant of frames holds of a state with a frame in progress. -/
theorem frame_inv_busy : FrameInv busy := by
  refine ⟨fun p => ?_, fun h => ?_, fun p d => ?_, by decide, by decide, fun p => ?_⟩
  · simp only [ParserInv]; cases p <;> decide
  · cases h <;> decide
  · cases p <;> cases d <;> decide
  · cases p <;> decide

theorem witness_step_keeps_fifo_and_xoff_invariants :
    busy.prm.Wf ∧ FifoInv busy ∧ XoffInv busy ∧ ∃ t, step busy = .next t :=
  ⟨by decide, fun p => by cases p <;> decide, fun p => by cases p <;> decide, _, rfl⟩

theorem witness_step_keeps_the_power_invariant : busy.prm.Wf ∧ PowerInv busy ∧ ∃ t, step busy = .next t :=
  ⟨by decide, by unfold PowerInv; decide, _, rfl⟩

theorem witness_step_keeps_the_frame_invariant : busy.prm.Wf ∧ FrameInv busy ∧ ∃ t, step busy = .next t :=
  ⟨by decide, frame_inv_busy, _, rfl⟩

theorem witness_step_keeps_the_counter_invariant : busy.prm.Wf ∧ CounterInv busy ∧ ∃ t, step busy = .next t := by
  refine ⟨by decide, ⟨fun p => ?_, fun p d => ?_, by decide, by decide, by decide, fun d => ?_⟩, _, rfl⟩
  · cases p <;> decide
  · cases p <;> cases d <;> decide
  · cases d <;> decide

theorem witness_encoded_events_decode :
    defaultTypeMap.Wf ∧ (Instr.configBaud .ext 5).wellFormed defaultTypeMap = true ∧
    (Instr.undefinedFromHost .h2 0xFF).wellFormed defaultTypeMap = true := by decide

theorem witness_each_code_has_one_meaning :
    decodeCode defaultTypeMap (.event 0x0A02C00A) = .instr (.configTimeout .h0 .rx true true 10) ∧
    decodeCode defaultTypeMap (.firstByte .h1 0x43) = .instr (.typeH1C .owner 0x43) := by decide

/-- The ends of the ranges of `H0` and `H2`, and the bytes beside them. -/
theorem witness_first_bytes_are_classified :
    defaultTypeMap.maps 0x01 .h0 .b ∧ defaultTypeMap.maps 0x03 .h0 .c ∧ defaultTypeMap.maps 0x83 .h2 .c ∧
    (¬ isEscape 0x00 ∧ defaultTypeMap.unmapped 0x00) ∧ (¬ isEscape 0x84 ∧ defaultTypeMap.unmapped 0x84) ∧
    ∀ sh, ¬ defaultTypeMap.maps 0x04 .h0 sh :=
  ⟨by decide, by decide, by decide, by decide, by decide, fun sh => by cases sh <;> decide⟩

/-- One word for each error, the control host's and another agent's, and a word without one. -/
theorem witness_words_are_judged_in_order :
    (wordError 0x0C000000 = some .invalidOp ∧ operandRow (opOf 0x0C000000) = none) ∧
    (wordError 0x05300000 = some .invalidPort ∧ isControlOp (opOf 0x05300000) = true) ∧
    (wordError 0x03000000 = some .invalidDirection ∧ isControlOp (opOf 0x03000000) = true) ∧
    (wordError 0x08000005 = some .unsupportedRate ∧ wordError 0x08000006 = some .invalidArg) ∧
    (wordError 0x84F00003 = some .invalidArg ∧ isControlOp (opOf 0x84F00003) = false ∧
      operandRow (opOf 0x84F00003) ≠ none) ∧
    wordError 0x84F00002 = none ∧ wordError 0x0A030001 = none := by decide

/-- A CONFIG_BAUD word with the rate index 4 and the unused bit 3 set (assumption log 6), and the index 4 alone. -/
theorem witness_baud_word_with_unused_bit :
    (wordError 0x0830000C = some .invalidArg ∧ isControlOp (opOf 0x0830000C) = true ∧
      decodeEvent 0x0830000C = .err .invalidArg) ∧ wordError 0x08300004 = some .unsupportedRate := by decide

theorem at_first_byte_example : AtFirstByte (received .ext [0x42]) .ext 0x42 :=
  ⟨⟨by decide, by decide, by decide⟩, by decide⟩

theorem witness_step_runs_the_decoded_event :
    busy.schedule = [0x80000002] ∧ decodeEvent 0x80000002 = .instr (.lineIn .h0 0x02) ∧
    decodeEvent 0xC0300000 = .instr (.coreRx .ext) ∧
    AtFirstByte { received .ext [0x42] with schedule := [0xC0300000] } .ext 0x42 ∧ State.reset.schedule = [] :=
  ⟨by decide, by decide, by decide, ⟨⟨by decide, by decide, by decide⟩, by decide⟩, by decide⟩

theorem witness_first_byte_events_are_core_steps :
    defaultTypeMap.Wf ∧ AtFirstByte (received .ext [0x42]) .ext 0x42 ∧
    encode (.typeH1A .external 0x42) = .firstByte .ext 0x42 ∧
    (Instr.typeH1A .external 0x42).wellFormed defaultTypeMap = true ∧ ¬ AtFirstByte awake .ext 0x42 :=
  ⟨by decide, at_first_byte_example, by decide, by decide, fun h => absurd h.head (by decide)⟩

/-- An event that changes the power gate, and one that changes a counter. -/
theorem witness_each_part_is_written_by_its_events_only :
    (exec (.tick .highSpeed) awake = .next (after (.tick .highSpeed) awake) ∧
      (after (.tick .highSpeed) awake).pg ≠ awake.pg) ∧
    exec (.lineIn .h0 0x02) awake = .next (after (.lineIn .h0 0x02) awake) ∧
    ((after (.lineIn .h0 0x02) awake).port .h0).rxByteCount ≠ (awake.port .h0).rxByteCount :=
  ⟨⟨rfl, by decide⟩, rfl, by decide⟩

/-- The other parts: each of them does change by an event of its clause. -/
theorem witness_parts_change :
    (after (.writeByte .h1 0x5A) awake).txFifo .h1 ≠ awake.txFifo .h1 ∧
    (after (.lineIn .h0 0x02) awake).rxFifo .h0 ≠ awake.rxFifo .h0 ∧
    ((after (.lineIn .h0 0x02) (received .h0 (List.replicate 48 0))).port .h0).xoffAsserted = true ∧
    ((after (.lineIn .h0 0x02) (received .h0 (List.replicate 64 0))).port .h0).rxOverrun = true ∧
    ((after (.coreRx .ext) (checking [0x92] 0x07)).port .h0).crcErrCount = 1 ∧
    ((after (.coreRx .ext) (checking [0x92] 0x07)).tmo .h0 .tx).packetCount = 1 ∧
    ((after (.coreRx .h0) (received .h0 [0x02])).rxp .h0).phase = .header ∧
    (after (.resetPort .h0) (sending [0x66])).extOwner = none ∧ (sending [0x66]).extOwner = some .h0 ∧
    (after (.restoreFault .ext) { awake with now := 3 }).faultTime = 3 ∧
    (after (.restoreFault .ext) awake).faultBitmap ≠ awake.faultBitmap ∧
    (after (.monEnable true) awake).mon.monEnabled = true ∧ (after (.monConfig 1 true true) awake).mon.monRolling = true := by
  decide

theorem witness_open_and_close : awake.opened = true ∧ State.reset.opened = false := by decide

theorem witness_trx_clauses :
    DirField.both ≠ .none ∧ State.reset.opened = false ∧ awake.opened = true ∧ awake.pgState = .ckon ∧
    ({ awake with pg := gate .ready } : State).pgState = .ready := by decide

/-- CLEAR_TRX with another request left, and emptying the requests in READY and in CKON. -/
theorem witness_clear_trx_clauses :
    ((after (.clearTrx .h0 .tx) awake).pg.trxReq.get .h0).get .rx = true ∧
    (∀ g e, ((after (.clearTrx .h0 .both)
      { awake with pg := { gate .ready with trxReq := ⟨.all true, .all false, .all false⟩ } }).pg.trxReq.get g).get e
        = false) ∧
    ∀ g e, ((after (.clearTrx .h0 .both)
      { awake with pg := { gate .ckon with trxReq := ⟨.all true, .all false, .all false⟩ } }).pg.trxReq.get g).get e
        = false :=
  ⟨by decide, fun g e => by cases g <;> cases e <;> decide, fun g e => by cases g <;> cases e <;> decide⟩

theorem witness_is_ready :
    (({ awake with pg := gate .ready } : State).pgState = .ready ∧ ((gate .ready).trxReq.get .h0).tx = true) ∧
    ¬ (awake.pgState = .ready ∧ ((awake.pg.trxReq.get .h0).tx = true ∨ (awake.pg.trxReq.get .h0).rx = true)) := by
  decide

/-- A closed hub in which the power invariant holds. -/
theorem witness_is_ready_closed : PowerInv State.reset ∧ State.reset.opened = false := by
  simp only [PowerInv]; decide

/-- Each row of the tick's table, at the ends of the counters' ranges (CLK_RETRY_MAX 5, SETTLE_TICKS 2). -/
theorem witness_tick_moves_the_power_gate :
    State.reset.pgState = .idle ∧ (gate .ready).pgState = .ready ∧
    ((gate .prepare).pgState = .prepare ∧ (gate .prepare).hubActive = true ∧
      ({ gate .prepare with trxReq := .all (.all false) } : PowerGate).hubActive = false) ∧
    ((gate .ckon).pgState = .ckon ∧ (gate .ckon).clkRetry < Params.default.clkRetryMax ∧
      Params.default.clkRetryMax ≤ ({ gate .ckon with clkRetry := 5 } : PowerGate).clkRetry) ∧
    ((gate .wait).settleCnt + 1 < Params.default.settleTicks ∧
      Params.default.settleTicks ≤ ({ gate .wait with settleCnt := 1 } : PowerGate).settleCnt + 1) ∧
    ((gate .ckoff).pgState = .ckoff ∧ (gate .ckoff).clkRetry + 1 ≠ Params.default.clkRetryMax ∧
      ({ gate .ckoff with clkRetry := 4 } : PowerGate).clkRetry + 1 = Params.default.clkRetryMax) ∧
    Ack.none ≠ .highSpeed ∧ Ack.highSpeed ≠ .lowPower := by decide

/-- READY with `H0` active only. -/
def committed : State := { awake with pg := { gate .ready with trxReq := ⟨.all true, .all false, .all false⟩ } }

theorem witness_rapid_clear_and_request :
    committed.pgState = .ready ∧ committed.opened = true ∧ committed.prm.Wf ∧
    exec (.clearTrx .h0 .both) committed = .next (after (.clearTrx .h0 .both) committed) ∧
    (after (.clearTrx .h0 .both) committed).pg.hubActive = false ∧
    Instr.closeHub ∉ [Instr.tick .lowPower, .lineIn .h0 1] ∧
    tickCount [.tick .lowPower, .lineIn .h0 1] < committed.prm.settleTicks ∧
    ∃ v, runEvents [.tick .lowPower, .lineIn .h0 1] (after (.clearTrx .h0 .both) committed) = some v :=
  ⟨by decide, by decide, by decide, rfl, by decide, by decide, by decide, _, rfl⟩

theorem witness_configuration_operands :
    ((DirField.rx = .rx ∧ Wiring.extRx = .extRx) ∧ (3#3).toNat = (3 : Fin 4).val) ∧
    ((4#3).toNat = 4 ∧ (5#3).toNat = 5 ∧ (6#3).toNat = 6 ∧ (7#3).toNat = 7) ∧ DirField.tx ≠ .none ∧
    ((0#14).toNat = 0 ∧ 1 ≤ (1#14).toNat ∧ 1 ≤ (16383#14).toNat) := by decide

/-- The last byte that fits in a FIFO of 64, and the first that does not. -/
theorem witness_fifo_room :
    (awake.pgState ≠ .idle ∧ Room (crowded awake .h0 63) .h0 1) ∧ State.reset.pgState = .idle ∧
    ¬ Room (crowded awake .h0 64) .h0 1 ∧ (received .ext [0xFF, 0x02]).rxFifo .ext = 0xFF :: [0x02] ∧
    awake.rxFifo .ext = [] := by decide

theorem witness_line_in :
    State.reset.pgState = .idle ∧
    ((received .h0 (List.replicate 63 0)).pgState ≠ .idle ∧
      ((received .h0 (List.replicate 63 0)).rxFifo .h0).length + 1 ≤ awake.prm.fifoDepth) ∧
    awake.prm.fifoDepth ≤ ((received .h0 (List.replicate 64 0)).rxFifo .h0).length := by decide

/-- `H1` with one byte to send, wired as `w`. -/
def wired (w : Wiring) : State :=
  awake.setPort .h1 { awake.port .h1 with txFifo := [0x5A], loop := w }

theorem witness_line_out :
    ((wired .off).pgState ≠ .idle ∧ (wired .off).txFifo .h1 = 0x5A :: [] ∧
      ((wired .off).port .h1).xoffDetected = false ∧ ((wired .off).port .h1).sleepReq = false) ∧
    ((wired .off).port .h1).loop = .off ∧ ((wired .selfRx).port .h1).loop = .selfRx ∧
    ((wired .extRx).port .h1).loop = .extRx ∧ awake.txFifo .h1 = [] := by decide

theorem witness_loopback :
    ((wired .selfRx).setTxFifo .h1 []).prm.Wf ∧ ((wired .selfRx).setTxFifo .h1 []).pgState ≠ .idle ∧
    (((wired .selfRx).setTxFifo .h1 []).port .h1).loop = .selfRx ∧
    ((wired .selfRx).setTxFifo .h1 []).txFifo .h1 = [] ∧
    (∃ u, runEvents [.writeByte .h1 0x5A, .lineOut .h1] ((wired .selfRx).setTxFifo .h1 []) = some u) ∧
    ∃ v, runEvents [.lineIn .h1 0x5A] ((wired .selfRx).setTxFifo .h1 []) = some v :=
  ⟨by decide, by decide, by decide, by decide, ⟨_, rfl⟩, ⟨_, rfl⟩⟩

/-- The 49th byte raises XOFF, and the pop from 33 to 32 lowers it (45_flowcontrol.md R197). -/
theorem witness_own_xoff_moves :
    (((received .h1 (List.replicate 48 0)).port .h1).xoffAsserted = false ∧
      ((after (.lineIn .h1 0) (received .h1 (List.replicate 48 0))).port .h1).xoffAsserted = true) ∧
    ((after (.readByte .h1) (awake.setPort .h1 { awake.port .h1 with
        rxFifo := List.replicate 34 0, xoffAsserted := true })).port .h1).xoffAsserted = true ∧
    ((after (.readByte .h1) (awake.setPort .h1 { awake.port .h1 with
        rxFifo := List.replicate 33 0, xoffAsserted := true })).port .h1).xoffAsserted = false := by decide

/-- Every port blocked, seven ticks already counted. -/
def stuck : State :=
  { awake with
    ports := ⟨{ awake.port .h0 with txFifo := [1], xoffDetected := true },
      { awake.port .h1 with txFifo := [1], xoffDetected := true },
      { awake.port .h2 with txFifo := [1], xoffDetected := true },
      { awake.port .ext with txFifo := [1], xoffDetected := true }⟩
    xoffPollCount := 7 }

theorem witness_stuck_xoff :
    FrameInv stuck ∧ (stuck.pg.tick stuck.prm .none).pgState ≠ .idle ∧ RecoveryDue stuck := by
  refine ⟨⟨fun p => ?_, fun h => ?_, fun p d => ?_, by decide, by decide, fun p => ?_⟩, by decide, fun p => ?_, by decide⟩
  · simp only [ParserInv]; cases p <;> decide
  · cases h <;> decide
  · cases p <;> cases d <;> decide
  · cases p <;> decide
  · cases p <;> decide

theorem witness_tick_in_idle : (State.reset.pg.tick State.reset.prm .highSpeed).pgState = .idle := by decide

/-- The RX timer of `H0` one tick before its period of 10, in relaxed or in strict mode. -/
def late (strict : Bool) : State :=
  (sending []).setTmo .h0 .rx { (sending []).tmo .h0 .rx with timer := 9, resyncEnabled := strict }

theorem witness_relaxed_timeout :
    ((late false).pg.tick (late false).prm .none).pgState ≠ .idle ∧ Firing (late false) .h0 .rx ∧
    (∀ p d, Firing (late false) p d → ((late false).tmo p d).resyncEnabled = false) ∧ ¬ RecoveryDue (late false) :=
  ⟨by decide, by decide, fun p d => by cases p <;> cases d <;> decide, fun h => absurd (h.1 .h0) (by decide)⟩

/-- `H0`'s frame owns External's path, both timers that watch it are one tick from their period, in strict mode. -/
def bothStrict : State :=
  ((sending []).setTmo .h0 .rx { (sending []).tmo .h0 .rx with resyncEnabled := true, timer := 9 }).setTmo .ext .tx
    { (sending []).tmo .ext .tx with resyncEnabled := true, timer := 9 }

theorem witness_strict_timeout :
    ((late true).pg.tick (late true).prm .none).pgState ≠ .idle ∧ ¬ RecoveryDue (late true) ∧
    Firing (late true) .h0 .rx ∧ ((late true).tmo .h0 .rx).resyncEnabled = true ∧
    resyncSource (late true) .h0 .rx = some .h0 ∧ resyncSource (late true) .ext .tx = some .h0 ∧
    ∀ q e, (q, e) ≠ (Port.h0, Dir.rx) → Firing (late true) q e → ((late true).tmo q e).resyncEnabled = false :=
  ⟨by decide, fun h => absurd (h.1 .h0) (by decide), by decide, by decide, by decide, by decide,
    fun q e => by cases q <;> cases e <;> decide⟩

/-- Both timers of the frame that `H0` sends are due in one tick, both in strict mode, and the invariant of frames holds:
the RX timer of `H0` expires, the TX timer of External does not (V-TMO-3 of 95_test_vectors.md). -/
theorem witness_strict_order :
    FrameInv bothStrict ∧ (bothStrict.pg.tick bothStrict.prm .none).pgState ≠ .idle ∧ ¬ RecoveryDue bothStrict ∧
    Expires bothStrict .h0 .rx ∧ Cut bothStrict .h0 ∧ (Firing bothStrict .ext .tx ∧ ¬ Expires bothStrict .ext .tx) ∧
    ¬ Firing bothStrict .h1 .rx :=
  ⟨by
    refine ⟨fun p => ?_, fun h => ?_, fun p d => ?_, by decide, by decide, fun p => ?_⟩
    · simp only [ParserInv]; cases p <;> decide
    · cases h <;> decide
    · cases p <;> cases d <;> decide
    · cases p <;> decide,
   by decide, fun h => absurd (h.1 .h0) (by decide),
   ⟨by decide, fun q e => by cases q <;> cases e <;> decide⟩, ⟨.h0, .rx, by decide⟩,
   ⟨by decide, fun h => h.2 .h0 .rx (by decide) (by decide) (by decide) (by decide)⟩, by decide⟩

/-- 43_timeout.md R148: in that tick only the first of the two counts and raises its fault. -/
theorem test_strict_order :
    ((after (.tick .none) bothStrict).tmo .h0 .rx).timeoutCount = 1 ∧
    ((after (.tick .none) bothStrict).tmo .ext .tx).timeoutCount = 0 ∧
    (after (.tick .none) bothStrict).faultBitmap = 0x0100 ∧ (after (.tick .none) bothStrict).extOwner = none := by decide

/-- The four causes and the clearing. -/
theorem witness_fault_bits :
    (after (.coreRx .ext) (checking [0x92] 0x07)).faultBitmap.getLsbD (faultBit .crcError .h0) = true ∧
    (after (.coreRx .ext) (received .ext [0x67])).faultBitmap.getLsbD (faultBit .packetTypeError .ext) = true ∧
    (after (.tick .none) (late false)).faultBitmap.getLsbD (faultBit .timeoutError .h0) = true ∧
    (after (.restoreFault .ext) awake).faultBitmap.getLsbD (faultBit .restoreError .ext) = true ∧
    (after (.clearFaults 0x8000) (after (.restoreFault .ext) awake)).faultBitmap.getLsbD 15 = false := by
  decide +kernel

/-- The line low, then high: by OPEN, by IRQ_UNMASK, by a fault. -/
theorem witness_interrupt_edges :
    (({ State.reset with faultBitmap := 0x1000 } : State).irqLine = false ∧
      (after .openHub { State.reset with faultBitmap := 0x1000 }).irqLine = true) ∧
    (({ awake with faultBitmap := 0x1000, irqMasked := true } : State).irqLine = false ∧
      (after .irqUnmask { awake with faultBitmap := 0x1000, irqMasked := true }).irqLine = true) ∧
    awake.irqLine = false ∧ (after (.restoreFault .h0) awake).irqLine = true := by decide

theorem witness_core_enabled :
    coreEnabled (received .ext [0x42]) .ext = true ∧ coreEnabled (parsing (sending []) .h0 .crc [] 0 0) .h0 = true ∧
    coreEnabled awake .ext = false ∧ coreEnabled State.reset .h0 = false := by decide

theorem witness_frame_start :
    (received .ext [0x42]).prm.typeMap.Wf ∧ AtFirstByte (received .ext [0x42]) .ext 0x42 ∧
    (received .ext [0x42]).prm.typeMap.maps 0x42 .h1 .a ∧ Port.ext = FrameSource.external.port (hostPort .h1) ∧
    AtFirstByte (received .h2 [0x83]) .h2 0x83 ∧ (received .h2 [0x83]).prm.typeMap.maps 0x83 .h2 .c ∧
    Port.h2 = FrameSource.owner.port (hostPort .h2) :=
  ⟨by decide, at_first_byte_example, by decide, rfl, ⟨⟨by decide, by decide, by decide⟩, by decide⟩, by decide, rfl⟩

/-- The keepalive, and an escape with and without room at its host. -/
theorem witness_escapes :
    AtFirstByte (received .ext [0xFF]) .ext 0xFF ∧
    (AtFirstByte (crowded (received .ext [0xF1]) .h1 63) .ext 0xF1 ∧ Room (crowded (received .ext [0xF1]) .h1 63) .h1 1) ∧
    AtFirstByte (crowded (received .ext [0xF1]) .h1 64) .ext 0xF1 ∧ ¬ Room (crowded (received .ext [0xF1]) .h1 64) .h1 1 :=
  ⟨⟨⟨by decide, by decide, by decide⟩, by decide⟩, ⟨⟨⟨by decide, by decide, by decide⟩, by decide⟩, by decide⟩,
    ⟨⟨by decide, by decide, by decide⟩, by decide⟩, by decide⟩

theorem witness_undefined_bytes :
    (AtFirstByte (received .ext [0x04]) .ext 0x04 ∧ ¬ isEscape 0x04 ∧ defaultTypeMap.unmapped 0x04 ∧
      Room (received .ext [0x04]) .h0 1) ∧ ¬ Room (crowded (received .ext [0x04]) .h0 64) .h0 1 ∧
    (AtFirstByte (received .h1 [0x02]) (hostPort .h1) 0x02 ∧ (∀ sh, ¬ defaultTypeMap.maps 0x02 .h1 sh) ∧
      (received .h1 [0x02]).extOwner = none ∧ Room (received .h1 [0x02]) .ext 1) ∧
    ((received .h1 [0x02]).setOwner (some .h0)).extOwner ≠ none :=
  ⟨⟨⟨⟨by decide, by decide, by decide⟩, by decide⟩, by decide, by decide, by decide⟩, by decide,
    ⟨⟨⟨by decide, by decide, by decide⟩, by decide⟩, fun sh => by cases sh <;> decide, by decide, by decide⟩, by decide⟩

/-- A parser of shape A with one header byte, and with all but the last. -/
theorem witness_header_bytes :
    (AtByte (parsing (received .h0 [0]) .h0 .header [0x02] 0 0xFFFF) .h0 0 ∧
      ([0x02] : List Byte).length + 1 < hdrLen ((parsing (received .h0 [0]) .h0 .header [0x02] 0 0xFFFF).rxp .h0).shape) ∧
    (AtByte (parsing (crowded (received .h0 [0]) .ext 59) .h0 .header [0x02, 0, 0, 3] 0 0xFFFF) .h0 0 ∧
      ([0x02, 0, 0, 3] : List Byte).length + 1 = hdrLen .a ∧ payloadLength .a [0x02, 0, 0, 3, 0] = 3 ∧
      payloadLength .a [0x02, 0, 0, 0, 0] = 0 ∧ Room (crowded awake .ext 59) .ext 5) ∧
    ¬ Room (crowded awake .ext 60) .ext 5 ∧ (sending [0x66]).extOwner ≠ none ∧
    ({ awake with prm := { Params.default with extRxCrc := false } } : State).prm.extRxCrc = false :=
  ⟨⟨⟨by decide, by decide, by decide⟩, by decide⟩, ⟨⟨by decide, by decide, by decide⟩, by decide, by decide, by decide,
    by decide⟩, by decide, by decide, by decide⟩

/-- Three payload bytes to come, and one. -/
theorem witness_payload_bytes :
    (AtByte (sending [0x66]) .h0 0x66 ∧ ((sending [0x66]).rxp .h0).phase = .payload ∧
      2 ≤ ((sending [0x66]).rxp .h0).remain ∧ Room (sending [0x66]) .ext 1) ∧
    ((parsing (sending [0x66]) .h0 .payload [] 1 0).rxp .h0).remain = 1 ∧
    ¬ Room (crowded (sending [0x66]) .ext 64) .ext 1 :=
  ⟨⟨⟨by decide, by decide, by decide⟩, by decide, by decide, by decide⟩, by decide, by decide⟩

/-- External's parser in phase `ph` of a frame for `H0`, one byte received, EXT_RX_CRC false. -/
def untrailed (ph : Phase) (hdr : List Byte) (n : Nat) : State :=
  { parsing (received .ext [0]) .ext ph hdr n 0xFFFF with prm := { Params.default with extRxCrc := false } }

/-- A frame from External that carries no trailer (EXT_RX_CRC false), one byte before its end: the last header byte of a
frame of length 0, and the last payload byte. -/
theorem witness_frames_without_trailer :
    (AtByte (untrailed .header [0x02, 0, 0, 0] 0) .ext 0 ∧
      ((untrailed .header [0x02, 0, 0, 0] 0).rxp .ext).phase = .header ∧
      ((untrailed .header [0x02, 0, 0, 0] 0).rxp .ext).hdr.length + 1 = hdrLen .a ∧
      payloadLength .a [0x02, 0, 0, 0, 0] = 0 ∧ Room (untrailed .header [0x02, 0, 0, 0] 0) .h0 5 ∧
      ((after (.coreRx .ext) (untrailed .header [0x02, 0, 0, 0] 0)).rxp .ext).phase = .boundary) ∧
    (AtByte (untrailed .payload [] 1) .ext 0 ∧ ((untrailed .payload [] 1).rxp .ext).phase = .payload ∧
      ((untrailed .payload [] 1).rxp .ext).remain = 1 ∧ Room (untrailed .payload [] 1) .h0 1 ∧
      ((after (.coreRx .ext) (untrailed .payload [] 1)).rxp .ext).phase = .boundary) ∧
    (untrailed .payload [] 1).prm.extRxCrc = false :=
  ⟨⟨⟨by decide, by decide, by decide⟩, by decide, by decide, by decide, by decide, by decide⟩,
   ⟨⟨by decide, by decide, by decide⟩, by decide, by decide, by decide, by decide⟩, by decide⟩

/-- Room for the two trailer bytes, and for one only. -/
theorem witness_generated_trailer :
    (parsing (sending []) .h0 .crc [] 0 0x0692).pgState ≠ .idle ∧
    (parsing (sending []) .h0 .crc [] 0 0x0692).bypassMode = false ∧
    ((parsing (sending []) .h0 .crc [] 0 0x0692).rxp .h0).phase = .crc ∧
    ((parsing (sending []) .h0 .crc [] 0 0x0692).rxp .h0).dest = .ext ∧
    Room (crowded (parsing (sending []) .h0 .crc [] 0 0x0692) .ext 62) .ext 2 ∧
    ¬ Room (crowded (parsing (sending []) .h0 .crc [] 0 0x0692) .ext 63) .ext 2 := by decide

theorem witness_received_trailer :
    AtByte (checking [] 0x92) .ext 0x92 ∧ ((checking [] 0x92).rxp .ext).phase = .crc ∧
    ((checking [] 0x92).rxp .ext).dest = hostPort .h0 ∧ ((checking [] 0x92).rxp .ext).trailer = [] ∧
    AtByte (checking [0x92] 0x06) .ext 0x06 ∧ ((checking [0x92] 0x06).rxp .ext).trailer = [0x92] :=
  ⟨⟨by decide, by decide, by decide⟩, by decide, by decide, by decide, ⟨by decide, by decide, by decide⟩, by decide⟩

/-- Bypass with a byte from `H0`, with room and without. -/
theorem witness_bypass :
    (({ received .h0 [0x55] with bypassMode := true } : State).rxFifo .h0).head? = some 0x55 ∧
    ({ received .h0 [0x55] with bypassMode := true } : State).pgState ≠ .idle ∧
    Room { crowded (received .h0 [0x55]) .ext 63 with bypassMode := true } .ext 1 ∧
    ¬ Room { crowded (received .h0 [0x55]) .ext 64 with bypassMode := true } .ext 1 ∧
    true ≠ awake.bypassMode ∧ false = awake.bypassMode := by decide

/-- An owned path, and a step of another source. -/
theorem witness_owned_path :
    FrameInv busy ∧ busy.extOwner = some .h0 ∧ Port.ext ≠ hostPort .h0 ∧
    exec (.coreRx .ext) busy = .next (after (.coreRx .ext) busy) :=
  ⟨frame_inv_busy, by decide, by decide, rfl⟩

theorem witness_is_frame : IsFrame defaultTypeMap .h0 [0x02, 0x00, 0x00, 0x03, 0x00, 0x66, 0x67, 0x68] :=
  ⟨.a, [0x02, 0x00, 0x00, 0x03, 0x00], [0x66, 0x67, 0x68], rfl, rfl, by decide, rfl⟩

/-- The worked example's frame, from `H0` and from External, each FIFO with exactly the room it needs. -/
theorem witness_frames_of_the_worked_example :
    (awake.prm.Wf ∧ awake.pgState ≠ .idle ∧ awake.bypassMode = false ∧ (awake.rxp .h0).phase = .boundary ∧
      awake.rxFifo .h0 = [] ∧ awake.extOwner = none ∧ Room (crowded awake .ext 54) .ext (8 + 2)) ∧
    awake.prm.extRxCrc = true ∧ (awake.rxp .ext).phase = .boundary ∧ awake.rxFifo .ext = [] ∧
    Room (crowded awake .h0 56) .h0 8 ∧ ParserInv awake .ext :=
  ⟨by decide, by decide, by decide, by decide, by decide, by simp only [ParserInv]; decide⟩

/-- A frame of `H0` in progress where External's frames carry no trailer. -/
theorem witness_no_trailers :
    FrameInv { busy with prm := { Params.default with extRxCrc := false } } ∧
    exec (.coreRx .h0) { busy with prm := { Params.default with extRxCrc := false } } =
      .next (after (.coreRx .h0) { busy with prm := { Params.default with extRxCrc := false } }) := by
  refine ⟨⟨fun p => ?_, fun h => ?_, fun p d => ?_, by decide, by decide, fun p => ?_⟩, rfl⟩
  · simp only [ParserInv]; cases p <;> decide
  · cases h <;> decide
  · cases p <;> cases d <;> decide
  · cases p <;> decide

theorem witness_crc_detection :
    0 < ([0x00] : List Byte).length ∧ ([0x00] : List Byte)[0]? ≠ some (0x01 : Byte) ∧
    crcTrailer (crc16 [0x00]) = [0xF0, 0xE1] := by decide

/-- A pending fault at an open hub: unmasking raises the line. -/
theorem witness_unmask_with_fault :
    ({ awake with faultBitmap := 0x0080 } : State).faultBitmap ≠ 0 ∧ awake.opened = true ∧
    (after .irqUnmask { awake with faultBitmap := 0x0080, irqMasked := true }).irqLine = true := by decide

/-- Each mode operand, and each clause of MON_READ at the ends of its index range. -/
theorem witness_monitor_operands :
    awake.mon.monEnabled = false ∧ (after (.monEnable true) awake).mon.monEnabled = true ∧
    (awake.mon.monMode = .packetInfo ∧ (3 : Fin 4).val = (3#4).toNat ∧ 3 < (4#4).toNat) ∧
    ((after (.monConfig 1 false false) awake).mon.monMode = .checkData ∧ (15 : Fin 16).val = (15#4).toNat) ∧
    ((after (.monConfig 2 false false) awake).mon.monMode = .crcResult ∧ (7 : Fin 8).val = (7#4).toNat ∧
      7 < (8#4).toNat) := by decide

/-- An event other than MON_READ while the monitor captures. -/
theorem witness_monitor_never_interferes :
    (∀ f sel k, Instr.coreRx .ext ≠ .monRead f sel k) ∧
    exec (.coreRx .ext) (received .ext [0x42]) = .next (after (.coreRx .ext) (received .ext [0x42])) :=
  ⟨fun f sel k h => (by cases h), rfl⟩

end Sys2Proof.Tests
end

