-- ==== Sys2Proof/Proofs/Reset.lean ====
section
/-!
PROOF. The invariants of Safety.lean at the state after hub init (70_reset_and_hazards.md R245): what reading a part of
that state gives, then one lemma for each invariant. The parameters matter to the thresholds of flow control, to the
timeout periods and to the lower bounds of the counters' limits only (00_scope.md R4).
-/

namespace Sys2Proof

/-- The periods of a well-formed parameter set, read at one port and direction. -/
theorem PeriodsWf.get {v : PerPort (PerDir Nat)} (h : PeriodsWf v) (p : Port) (d : Dir) :
    1 ≤ (v.get p).get d ∧ (v.get p).get d ≤ 16383 := by
  obtain ⟨h0tx, h0rx, h1tx, h1rx, h2tx, h2rx, extTx, extRx⟩ := h
  cases p <;> cases d <;> assumption

end Sys2Proof

namespace Sys2Proof.Machine

/-! ## Reading the state after reset -/

@[simp] theorem State.init_prm (c : Params) : (State.init c).prm = c := rfl
@[simp] theorem State.init_extOwner (c : Params) : (State.init c).extOwner = none := rfl
@[simp] theorem State.init_bypassMode (c : Params) : (State.init c).bypassMode = false := rfl
@[simp] theorem State.init_faultBitmap (c : Params) : (State.init c).faultBitmap = 0 := rfl
@[simp] theorem State.init_mon (c : Params) : (State.init c).mon = Monitor.initial := rfl

@[simp] theorem State.init_port (c : Params) (p : Port) : (State.init c).port p = PortState.initial c p := by
  cases p <;> rfl

@[simp] theorem PortState.initial_xoffAsserted (c : Params) (p : Port) :
    (PortState.initial c p).xoffAsserted = false := rfl
@[simp] theorem PortState.initial_txByteCount (c : Params) (p : Port) : (PortState.initial c p).txByteCount = 0 := rfl
@[simp] theorem PortState.initial_rxByteCount (c : Params) (p : Port) : (PortState.initial c p).rxByteCount = 0 := rfl
@[simp] theorem PortState.initial_crcErrCount (c : Params) (p : Port) : (PortState.initial c p).crcErrCount = 0 := rfl
@[simp] theorem PortState.initial_sleepReq (c : Params) (p : Port) : (PortState.initial c p).sleepReq = false := rfl

@[simp] theorem State.init_txFifo (c : Params) (p : Port) : (State.init c).txFifo p = [] := by
  rw [State.txFifo, State.init_port]; rfl

@[simp] theorem State.init_rxFifo (c : Params) (p : Port) : (State.init c).rxFifo p = [] := by
  rw [State.rxFifo, State.init_port]; rfl

@[simp] theorem State.init_rxp (c : Params) (p : Port) : (State.init c).rxp p = Parser.initial (resetDest p) := by
  rw [State.rxp, State.init_port]; rfl

@[simp] theorem State.init_tmo (c : Params) (p : Port) (d : Dir) :
    (State.init c).tmo p d =
      TimeoutRec.initial ((c.initTimeoutEn.get p).get d) ((c.initResync.get p).get d) ((c.timeoutTicks.get p).get d) := by
  rw [State.tmo, State.init_port]
  cases d <;> rfl

/-! ## Each invariant after reset -/

theorem fifoInv_init (c : Params) : FifoInv (State.init c) := by
  intro p
  simp

/-- The FIFOs are empty: the free space is FIFO_DEPTH, above XON_AVAIL_HIGH and so above XOFF_AVAIL_LOW. -/
theorem xoffInv_init {c : Params} (h : c.Wf) : XoffInv (State.init c) := by
  obtain ⟨_, ⟨_, low_lt_high, high_le⟩, _⟩ := h
  intro p
  have room : c.xoffAvailLow ≤ c.fifoDepth := by omega
  simpa [State.avail] using room

/-- The closed hub is in IDLE on the low-power clock with no request, its counters at 0. -/
theorem powerInv_init {c : Params} (h : c.Wf) : PowerInv (State.init c) := by
  obtain ⟨_, _, _, _, settle_pos, _⟩ := h
  have idle_clock : PowerGate.initial.clkReq = .lowPower ∧ PowerGate.initial.hubActive = false := by decide
  refine ⟨nofun, nofun, nofun, fun _ => idle_clock, nofun, nofun, fun _ => ⟨rfl, rfl⟩, Nat.zero_le _, nofun, settle_pos⟩

/-- The parser of every port is at a boundary with nothing collected. -/
theorem parserInv_init (c : Params) (p : Port) : ParserInv (State.init c) p := by
  simp [ParserInv, Parser.initial]

theorem ownerInv_init (c : Params) : OwnerInv (State.init c) := by
  intro h
  simp [Delivering, Parser.initial]

theorem timerInv_init {c : Params} (h : c.Wf) : TimerInv (State.init c) := by
  obtain ⟨_, _, periods, _⟩ := h
  intro p d
  obtain ⟨period_pos, period_le⟩ := PeriodsWf.get periods p d
  rw [State.timer, State.init_tmo]
  exact ⟨fun _ => rfl, period_pos, period_le⟩

theorem addresseeInv_init (c : Params) : AddresseeInv (State.init c) := by
  simp [AddresseeInv]

theorem frameInv_init {c : Params} (h : c.Wf) : FrameInv (State.init c) :=
  ⟨parserInv_init c, ownerInv_init c, timerInv_init h, addresseeInv_init c⟩

theorem counterInv_init {c : Params} (h : c.Wf) : CounterInv (State.init c) := by
  obtain ⟨_, _, _, _, _, poll_pos, _⟩ := h
  have width_pos : 0 < 2 ^ c.cntWidth := Nat.two_pow_pos c.cntWidth
  refine ⟨fun p => ?_, fun p d => ?_, width_pos, width_pos, poll_pos, fun d => ?_⟩
  · simp
  · simp [TimeoutRec.initial]
  · simp [Monitor.initial, MonDir.cleared]

/-- The five invariants after hub init with a well-formed parameter set. -/
theorem invariants_init {c : Params} (h : c.Wf) :
    FifoInv (State.init c) ∧ XoffInv (State.init c) ∧ PowerInv (State.init c) ∧ FrameInv (State.init c) ∧
      CounterInv (State.init c) :=
  ⟨fifoInv_init c, xoffInv_init h, powerInv_init h, frameInv_init h, counterInv_init h⟩

/-- The parameters of `State.reset` meet 00_scope.md R4. -/
theorem params_default_wf : Params.default.Wf := by decide

/-- Settles O2: `State.reset` is the hub init with the default parameters, which are well formed. -/
theorem invariantsHoldAtReset : Obligations.InvariantsHoldAtReset :=
  ⟨fun _ => invariants_init, params_default_wf, invariants_init params_default_wf⟩

end Sys2Proof.Machine
end

section
/-!
PROOF. What one event can do to the hub: one inversion lemma for `exec`, over the rows of 30_encoding.md R73 and the
first bytes of R64 and R65. A first-byte event is CORE_RX of a stream that stands at a boundary (42_framer.md R129),
so that the hub core is one case.
-/

namespace Sys2Proof.Machine

/-! ## First-byte events -/

/-- The five forms of an event that is written as a first byte (30_encoding.md R64, R65). -/
theorem encode_firstByte_forms {i : Instr} {p : Port} {b : Byte} (h : encode i = .firstByte p b) :
    (i = .keepalive ∧ p = .ext ∧ b = 0xFF) ∨
    (∃ g, i = escapeInstr g ∧ p = .ext ∧ b = 0xF0 + BitVec.ofNat 8 (portNum (hostPort g))) ∨
    (∃ g sh src, i = typeInstr g sh src b ∧ p = src.port (hostPort g)) ∨
    (i = .undefinedFromExt b ∧ p = .ext) ∨
    ∃ g, i = .undefinedFromHost g b ∧ p = hostPort g := by
  cases i <;> simp only [encode, Code.firstByte.injEq, reduceCtorEq] at h <;> obtain ⟨rfl, rfl⟩ := h
  case keepalive => exact .inl ⟨rfl, rfl, rfl⟩
  case escH0 => exact .inr (.inl ⟨.h0, rfl, rfl, rfl⟩)
  case escH1 => exact .inr (.inl ⟨.h1, rfl, rfl, rfl⟩)
  case escH2 => exact .inr (.inl ⟨.h2, rfl, rfl, rfl⟩)
  case typeH0B src _ => exact .inr (.inr (.inl ⟨.h0, .b, src, rfl, rfl⟩))
  case typeH0A src _ => exact .inr (.inr (.inl ⟨.h0, .a, src, rfl, rfl⟩))
  case typeH0C src _ => exact .inr (.inr (.inl ⟨.h0, .c, src, rfl, rfl⟩))
  case typeH1B src _ => exact .inr (.inr (.inl ⟨.h1, .b, src, rfl, rfl⟩))
  case typeH1A src _ => exact .inr (.inr (.inl ⟨.h1, .a, src, rfl, rfl⟩))
  case typeH1C src _ => exact .inr (.inr (.inl ⟨.h1, .c, src, rfl, rfl⟩))
  case typeH2B src _ => exact .inr (.inr (.inl ⟨.h2, .b, src, rfl, rfl⟩))
  case typeH2A src _ => exact .inr (.inr (.inl ⟨.h2, .a, src, rfl, rfl⟩))
  case typeH2C src _ => exact .inr (.inr (.inl ⟨.h2, .c, src, rfl, rfl⟩))
  case undefinedFromExt => exact .inr (.inr (.inr (.inl ⟨rfl, rfl⟩)))
  case undefinedFromHost g _ => exact .inr (.inr (.inr (.inr ⟨g, rfl, rfl⟩)))

@[simp] theorem asHost_hostPort (h : HostPort) : asHost (hostPort h) = some h := by cases h <;> rfl

theorem asHost_eq_some {p : Port} {h : HostPort} : asHost p = some h ↔ p = hostPort h := by
  cases p <;> cases h <;> simp [asHost, hostPort]

theorem asHost_eq_none {p : Port} : asHost p = none ↔ p = .ext := by cases p <;> simp [asHost]

@[simp] theorem hostPort_ne_ext (h : HostPort) : hostPort h ≠ .ext := by cases h <;> decide

theorem hostPort_inj {h g : HostPort} : hostPort h = hostPort g ↔ h = g := by
  cases h <;> cases g <;> simp [hostPort]

/-- A port is External or a host's. -/
theorem ext_or_hostPort (p : Port) : p = .ext ∨ ∃ h, p = hostPort h := by
  cases p
  · exact .inr ⟨.h0, rfl⟩
  · exact .inr ⟨.h1, rfl⟩
  · exact .inr ⟨.h2, rfl⟩
  · exact .inl rfl

theorem classify_hostPort (m : TypeMap) (h : HostPort) (b : Byte) : classify m (hostPort h) b = classifyHost m h b := by
  cases h <;> rfl

theorem decodeFirstByte_hostPort (m : TypeMap) (h : HostPort) (b : Byte) :
    decodeFirstByte m (hostPort h) b = decodeFirstByteHost m h b := by
  cases h <;> rfl

/-- From a host's stream a first byte is a type of that host or undefined (30_encoding.md R65). -/
theorem classifyHost_cases (m : TypeMap) (h : HostPort) (b : Byte) :
    (∃ sh, m.lookup b = some (h, sh) ∧ classifyHost m h b = .frameStart h sh ∧
      decodeFirstByteHost m h b = typeInstr h sh .owner b) ∨
    (classifyHost m h b = .undefined ∧ decodeFirstByteHost m h b = .undefinedFromHost h b) := by
  unfold classifyHost decodeFirstByteHost
  cases hl : m.lookup b with
  | none => exact .inr ⟨rfl, rfl⟩
  | some x =>
    obtain ⟨g, sh⟩ := x
    by_cases hg : g = h
    · subst hg; exact .inl ⟨sh, rfl, by simp, by simp⟩
    · exact .inr ⟨by simp [hg], by simp [hg]⟩

/-- Byte `b` of source port `p`, of class `c`, is written for the event `i`: a keepalive and an escape come from
External only (30_encoding.md R64, R65). -/
def StandsFor (c : FirstByteClass) (p : Port) (b : Byte) (i : Instr) : Prop :=
  match c with
  | .keepalive => p = .ext ∧ i = .keepalive
  | .escape g => p = .ext ∧ i = escapeInstr g
  | .frameStart g sh =>
    (p = .ext ∧ i = typeInstr g sh .external b) ∨ (p = hostPort g ∧ i = typeInstr g sh .owner b)
  | .undefined => (p = .ext ∧ i = .undefinedFromExt b) ∨ ∃ g, p = hostPort g ∧ i = .undefinedFromHost g b

theorem classify_standsFor (m : TypeMap) (p : Port) (b : Byte) :
    StandsFor (classify m p b) p b (decodeFirstByte m p b) := by
  obtain rfl | ⟨g, rfl⟩ := ext_or_hostPort p
  · simp only [decodeFirstByte, classify, decodeFirstByteExt]
    cases classifyExt m b <;> simp [StandsFor]
  · rw [classify_hostPort, decodeFirstByte_hostPort]
    obtain ⟨sh, -, hc, hd⟩ | ⟨hc, hd⟩ := classifyHost_cases m g b <;> rw [hc, hd]
    · exact .inr ⟨rfl, rfl⟩
    · exact .inr ⟨g, rfl, rfl⟩

/-- At a boundary with a byte at hand the hub core's step is the one on a first byte (42_framer.md R129). -/
theorem coreStep_of_atFirstByte {s : State} {p : Port} {b : Byte} (h : AtFirstByte s p b) :
    coreStep s p = boundaryStep s p b := by
  obtain ⟨⟨gate, framed, head⟩, boundary⟩ := h
  obtain ⟨rest, hr⟩ : ∃ rest, s.rxFifo p = b :: rest := by
    cases hr : s.rxFifo p with
    | nil => simp [hr] at head
    | cons x rest => rw [hr] at head; exact ⟨rest, by simpa using head⟩
  have byte : byteStep s p b = boundaryStep s p b := by simp only [byteStep, boundary]
  have framed' : framedStep s p = byteStep s p b := by
    unfold framedStep
    split
    next hph => rw [boundary] at hph; cases hph
    next => rw [hr]
  simp only [coreStep, gate, framed, if_false, Bool.false_eq_true, framed', byte]

/-- A first-byte event does not happen, or is the hub core's step on the byte it is written as, which is at hand and of
its class (42_framer.md R129 (iii)). -/
theorem exec_firstByte {i : Instr} {p : Port} {b : Byte} (h : encode i = .firstByte p b) (s : State) :
    exec i s = .next (s.withResult .notEnabled) ∨
    (AtFirstByte s p b ∧ decodeFirstByte s.prm.typeMap p b = i ∧ exec i s = replyStep s (coreStep s p)) := by
  -- it is enough to give the class of the event and its step
  have key : ∀ c t, exec i s = firstByteEvent s p b c t →
      (classify s.prm.typeMap p b = c → decodeFirstByte s.prm.typeMap p b = i ∧ boundaryStep s p b = t) →
      exec i s = .next (s.withResult .notEnabled) ∨
        (AtFirstByte s p b ∧ decodeFirstByte s.prm.typeMap p b = i ∧ exec i s = replyStep s (coreStep s p)) := by
    intro c t he hc
    obtain ⟨hb, hcl, hev⟩ | ⟨-, hev⟩ := firstByteEvent_cases s p b c t
    · have at_hand := (atBoundaryWith_iff s p b).mp hb
      obtain ⟨hd, ht⟩ := hc hcl
      exact .inr ⟨at_hand, hd, by rw [he, hev, coreStep_of_atFirstByte at_hand, ht]⟩
    · exact .inl (by rw [he, hev]; rfl)
  have named := classify_standsFor s.prm.typeMap p b
  obtain ⟨rfl, rfl, rfl⟩ | ⟨g, rfl, rfl, rfl⟩ | ⟨g, sh, src, rfl, rfl⟩ | ⟨rfl, rfl⟩ | ⟨g, rfl, rfl⟩ :=
    encode_firstByte_forms h
  · refine key _ _ rfl fun hc => ⟨?_, by simp only [boundaryStep, hc]⟩
    rw [hc] at named
    exact named.2
  · refine key _ _ (exec_escapeInstr g s) fun hc => ⟨?_, by simp only [boundaryStep, hc]⟩
    rw [hc] at named
    exact named.2
  · refine key _ _ (exec_typeInstr g sh src b s) fun hc => ⟨?_, by simp only [boundaryStep, hc]⟩
    rw [hc] at named
    cases src with
    | external => simpa [StandsFor, FrameSource.port, (hostPort_ne_ext g).symm] using named
    | owner => simpa [StandsFor, FrameSource.port] using named
  · refine key _ _ rfl fun hc => ⟨?_, by simp only [boundaryStep, hc]; rfl⟩
    rw [hc] at named
    simpa [StandsFor, (hostPort_ne_ext _).symm] using named
  · refine key _ _ rfl fun hc => ⟨?_, by simp only [boundaryStep, hc, asHost_hostPort]⟩
    rw [hc] at named
    obtain ⟨he, -⟩ | ⟨g', hg, hd⟩ := named
    · exact absurd he (hostPort_ne_ext g)
    · rw [hd, hostPort_inj.mp hg]

/-! ## Every event -/

/-- `i` runs the hub core on source port `p`: it is CORE_RX, or the event of the first byte at hand. -/
def RunsCore (s : State) (i : Instr) (p : Port) : Prop :=
  i = .coreRx p ∨ ∃ b, encode i = .firstByte p b ∧ AtFirstByte s p b ∧ decodeFirstByte s.prm.typeMap p b = i

theorem RunsCore.coreEvent {s : State} {i : Instr} {p : Port} (h : RunsCore s i p) : CoreEvent i p :=
  h.imp id fun ⟨b, hb, _⟩ => ⟨b, hb⟩

/-- Off a frame boundary only CORE_RX itself runs the hub core. -/
theorem RunsCore.eq_coreRx {s : State} {i : Instr} {p : Port} (h : RunsCore s i p) (hp : (s.rxp p).phase ≠ .boundary) :
    i = .coreRx p := by
  obtain rfl | ⟨b, -, at_hand, -⟩ := h
  · rfl
  · exact absurd at_hand.boundary hp

/-- The timeout records after CONFIG_TIMEOUT (43_timeout.md R145). -/
def configuredTmo (old : PerDir TimeoutRec) (f : DirField) (en rs : Bool) (per : Nat) : PerDir TimeoutRec :=
  { tx := if covers f .tx then old.tx.configure en rs per else old.tx
    rx := if covers f .rx then old.rx.configure en rs per else old.rx }

theorem configDir_eq (s : State) (p : Port) (f : DirField) (en rs : Bool) (per : Nat) :
    configDir (configDir s p f .tx en rs per) p f .rx en rs per =
      s.setPort p { s.port p with tmo := configuredTmo (s.port p).tmo f en rs per } := by
  unfold configDir configuredTmo
  cases covers f .tx <;> cases covers f .rx
  case false.false => exact (State.setPort_port s p).symm
  all_goals simp [State.setTmo, State.tmo]

/-- The state that event `i` leaves, up to its result. -/
inductive EventEffect (s : State) : Instr → State → Prop
  | nothing (i : Instr) : EventEffect s i s
  | openHub : EventEffect s .openHub ((s.setPg { s.pg with opened := true }).setIrqMasked false)
  | closeHub : EventEffect s .closeHub (s.setPg s.pg.close)
  | setTrx (h : HostPort) (d : DirField) : EventEffect s (.setTrx h d) (s.setPg (s.pg.writeTrx h d true).requested)
  | clearTrx (h : HostPort) (d : DirField) : EventEffect s (.clearTrx h d) (s.setPg (s.pg.cleared h d))
  | configLoopback (p : Port) (d : DirField) (en : Bool) (w : Wiring) :
    EventEffect s (.configLoopback p d en) (s.setPort p { s.port p with loop := w })
  | setBypass (en : Bool) : EventEffect s (.setBypass en) { allPorts.foldl parserReset s with bypassMode := en }
  | configBaud (p : Port) (r : BitVec 3) (x : Fin 4) :
    EventEffect s (.configBaud p r) (s.setPort p { s.port p with baudRateIndex := x })
  | setDma (p : Port) (d : DirField) (en tx rx : Bool) :
    EventEffect s (.setDma p d en) (s.setPort p { s.port p with dmaTxEnabled := tx, dmaRxEnabled := rx })
  | configTimeout (p : Port) (d : DirField) (en rs : Bool) (per : BitVec 14) (hper : 1 ≤ per.toNat) :
    EventEffect s (.configTimeout p d en rs per)
      (s.setPort p { s.port p with tmo := configuredTmo (s.port p).tmo d en rs per.toNat })
  | resetPort (p : Port) : EventEffect s (.resetPort p) (portReset s p)
  | writeByte (p : Port) (b : Byte) (room : Room s p 1) : EventEffect s (.writeByte p b) (s.pushTx p b)
  | readByte (p : Port) : EventEffect s (.readByte p) (consume s p)
  | irqMask : EventEffect s .irqMask (s.setIrqMasked true)
  | irqUnmask : EventEffect s .irqUnmask (s.setIrqMasked false)
  | clearFaults (m : Word16) : EventEffect s (.clearFaults m) (ackFaults s m)
  | monEnable : EventEffect s (.monEnable true) (s.setMon { s.mon.clear with monEnabled := true })
  | monDisable : EventEffect s (.monEnable false) (s.setMon { s.mon with monEnabled := false })
  | monConfig (k : BitVec 2) (rolling mirror : Bool) (md : MonMode) (m : Monitor)
    (hm : m = s.mon ∨ m = { s.mon.clear with monMode := md }) :
    EventEffect s (.monConfig k rolling mirror) (s.setMon { m with monRolling := rolling, monMirror := mirror })
  | lineIn (p : Port) (b : Byte) : EventEffect s (.lineIn p b) (lineInject s p b)
  | lineOut (p : Port) (b : Byte) : EventEffect s (.lineOut p) (wireByte (transmit s p) p b)
  | lineXoff (p : Port) : EventEffect s (.lineXoff p) (setXoffDetected s p true)
  | lineXon (p : Port) : EventEffect s (.lineXon p) (setXoffDetected s p false)
  | tick (a : Ack) : EventEffect s (.tick a) (tickState s a)
  | restoreFault (p : Port) : EventEffect s (.restoreFault p) (raiseFault s .restoreError p)
  | core (i : Instr) (p : Port) (t : State) (runs : RunsCore s i p) (step : coreStep s p = some t) : EventEffect s i t

/-- The outcome of an event with an effect, whatever it returns. -/
def HasEffect (s : State) (i : Instr) (t : State) : Prop := ∃ u r, EventEffect s i u ∧ t = u.withResult r

theorem HasEffect.of_reply {s u t : State} {i : Instr} {r : Result} (h : EventEffect s i u) (e : reply u r = .next t) :
    HasEffect s i t := by
  cases e
  exact ⟨u, r, h, rfl⟩

theorem HasEffect.of_fail {s t : State} {i : Instr} {c : ErrCode} (e : fail s c = .next t) : HasEffect s i t :=
  .of_reply (.nothing i) e

theorem HasEffect.of_replyStep {s t : State} {i : Instr} {p : Port} (h : RunsCore s i p)
    (e : replyStep s (coreStep s p) = .next t) : HasEffect s i t := by
  cases hc : coreStep s p with
  | none => rw [hc] at e; exact .of_reply (.nothing i) e
  | some u => rw [hc] at e; exact .of_reply (.core i p u h hc) e

theorem HasEffect.of_firstByte {s t : State} {i : Instr} {p : Port} {b : Byte} (h : encode i = .firstByte p b)
    (e : exec i s = .next t) : HasEffect s i t := by
  obtain hn | ⟨at_hand, hd, hc⟩ := exec_firstByte h s
  · exact .of_reply (.nothing i) (hn.symm.trans e)
  · exact .of_replyStep (.inr ⟨b, h, at_hand, hd⟩) (hc.symm.trans e)

theorem State.room_of_txReady {s : State} {p : Port} (h : s.txReady p = true) : Room s p 1 := by
  unfold State.txReady at h
  simp only [Bool.and_eq_true, decide_eq_true_eq] at h
  exact (s.le_avail _ (Nat.le_refl 1)).mp h.2

/-- What an event can do: one of the effects above, and a result (00_scope.md section 5). -/
theorem exec_hasEffect {s t : State} {i : Instr} (e : exec i s = .next t) : HasEffect s i t := by
  cases i with
  | openHub =>
    change execOpen s = _ at e
    unfold execOpen at e
    split at e
    · exact .of_reply (.nothing _) e
    · exact .of_reply .openHub e
  | closeHub =>
    change execClose s = _ at e
    unfold execClose at e
    split at e
    · exact .of_reply .closeHub e
    · exact .of_reply (.nothing _) e
  | setTrx h d =>
    change execSetTrx h d s = _ at e
    unfold execSetTrx at e
    split at e
    · exact .of_fail e
    · split at e
      · exact .of_fail e
      · exact .of_reply (.setTrx h d) e
  | clearTrx h d =>
    change execClearTrx h d s = _ at e
    unfold execClearTrx at e
    split at e
    · exact .of_fail e
    · split at e
      · exact .of_fail e
      · exact .of_reply (.clearTrx h d) e
  | isReady h => exact .of_reply (.nothing _) e
  | configLoopback p d en =>
    change execConfigLoopback p d en s = _ at e
    unfold execConfigLoopback at e
    split at e
    · exact .of_fail e
    · exact .of_reply (.configLoopback p d en _) e
  | setBypass en =>
    change execSetBypass en s = _ at e
    unfold execSetBypass at e
    split at e
    · exact .of_reply (.nothing _) e
    · exact .of_reply (.setBypass en) e
  | configBaud p r =>
    change execConfigBaud p r s = _ at e
    unfold execConfigBaud at e
    split at e
    · exact .of_reply (.configBaud p r _) e
    · split at e <;> exact .of_fail e
  | setDma p d en =>
    change execSetDma p d en s = _ at e
    unfold execSetDma at e
    split at e
    · exact .of_fail e
    · exact .of_reply (.setDma p d en _ _) e
  | configTimeout p d en rs per =>
    change execConfigTimeout p d en rs per s = _ at e
    unfold execConfigTimeout at e
    split at e
    · exact .of_fail e
    · split at e
      · exact .of_fail e
      next h0 =>
        rw [configDir_eq] at e
        exact .of_reply (.configTimeout p d en rs per (Nat.one_le_iff_ne_zero.mpr h0)) e
  | resetPort p => exact .of_reply (.resetPort p) e
  | writeByte p b =>
    change execWriteByte p b s = _ at e
    unfold execWriteByte at e
    split at e
    next ready => exact .of_reply (.writeByte p b (State.room_of_txReady ready)) e
    next => exact .of_reply (.nothing _) e
  | readByte p =>
    change execReadByte p s = _ at e
    unfold execReadByte at e
    split at e
    · exact .of_reply (.nothing _) e
    · exact .of_reply (.readByte p) e
  | isTxReady p => exact .of_reply (.nothing _) e
  | isRxReady p => exact .of_reply (.nothing _) e
  | irqMask => exact .of_reply .irqMask e
  | irqUnmask => exact .of_reply .irqUnmask e
  | readFaults => exact .of_reply (.nothing _) e
  | clearFaults m => exact .of_reply (.clearFaults m) e
  | monEnable en =>
    change execMonEnable en s = _ at e
    unfold execMonEnable at e
    cases en with
    | true =>
      cases hm : s.mon.monEnabled <;> simp only [hm] at e
      · exact .of_reply .monEnable e
      · exact .of_reply (.nothing _) e
    | false => exact .of_reply .monDisable e
  | monConfig k rolling mirror =>
    change execMonConfig k rolling mirror s = _ at e
    unfold execMonConfig at e
    split at e
    · exact .of_fail e
    next md _ =>
      refine .of_reply (.monConfig k rolling mirror md _ ?_) e
      split
      · exact .inr rfl
      · exact .inl rfl
  | monRead d sel x =>
    change execMonRead d sel x s = _ at e
    unfold execMonRead at e
    split at e
    · exact .of_fail e
    · split at e
      · exact .of_fail e
      · exact .of_reply (.nothing _) e
  | lineIn p b => exact .of_reply (.lineIn p b) e
  | lineOut p =>
    change execLineOut p s = _ at e
    unfold execLineOut at e
    split at e
    · exact .of_reply (.lineOut p _) e
    · exact .of_reply (.nothing _) e
  | lineXoff p => exact .of_reply (.lineXoff p) e
  | lineXon p => exact .of_reply (.lineXon p) e
  | tick a => exact .of_reply (.tick a) e
  | restoreFault p => exact .of_reply (.restoreFault p) e
  | coreRx p => exact .of_replyStep (.inl rfl) e
  | _ => exact .of_firstByte rfl e

/-- A property that reads neither the schedule nor the result and that every effect keeps is kept by a step. -/
theorem step_keeps_of_effect {P : State → Prop}
    (hP : ∀ s l r, P s → P { s with schedule := l, result := r })
    (heff : ∀ i s t, P s → EventEffect s i t → P t) {s t : State} (hs : P s) (h : step s = .next t) : P t := by
  obtain ⟨-, rfl⟩ | ⟨w, rest, -, ⟨i, -, hi⟩ | ⟨c, -, rfl⟩⟩ := step_cases h
  · exact hs
  · obtain ⟨u, r, hu, rfl⟩ := exec_hasEffect hi
    exact hP u u.schedule r (heff _ _ u (hP s rest s.result hs) hu)
  · exact hP s rest (.err c) hs

end Sys2Proof.Machine
end

section
/-!
PROOF. What one step of the hub core can do (42_framer.md R115 to R131): one case for each rule, with the ports, the
owner and the fault bitmap it leaves. What every such step leaves unchanged is said once.
-/

namespace Sys2Proof.Machine

/-! ## What the monitor's reports keep -/

/-- `m'` is `m` after reports of the hub core: the settings are kept, and the byte counts in their range
(46_monitor.md R203 to R205). -/
structure Monitor.Captures (m m' : Monitor) : Prop where
  enabled : m'.monEnabled = m.monEnabled
  mode : m'.monMode = m.monMode
  rolling : m'.monRolling = m.monRolling
  mirror : m'.monMirror = m.monMirror
  count : (∀ d, (m.dirs.get d).monCnt ≤ 16) → ∀ d, (m'.dirs.get d).monCnt ≤ 16

theorem Monitor.Captures.refl (m : Monitor) : m.Captures m := ⟨rfl, rfl, rfl, rfl, id⟩

theorem Monitor.Captures.trans {m m' m'' : Monitor} (h : m.Captures m') (h' : m'.Captures m'') : m.Captures m'' :=
  ⟨h'.enabled.trans h.enabled, h'.mode.trans h.mode, h'.rolling.trans h.rolling, h'.mirror.trans h.mirror,
    fun c => h'.count (h.count c)⟩

theorem Monitor.captures_setDir (m : Monitor) (d : Dir) (x : MonDir)
    (h : (m.dirs.get d).monCnt ≤ 16 → x.monCnt ≤ 16) : m.Captures (m.setDir d x) := by
  refine ⟨rfl, rfl, rfl, rfl, fun c e => ?_⟩
  rw [Monitor.setDir_dirs, PerDir.get_set]
  split
  · exact h (c d)
  · exact c e

theorem MonDir.startEvent_monCnt (m : MonDir) (rolling : Bool) : (m.startEvent rolling).monCnt = 0 := rfl

/-- At most 16 bytes of an event are captured (46_monitor.md R204). -/
theorem MonDir.capture_monCnt_le {m : MonDir} (b : Byte) (h : m.monCnt ≤ 16) : (m.capture b).monCnt ≤ 16 := by
  unfold MonDir.capture
  split
  · show m.monCnt + 1 ≤ 16
    omega
  · exact h

theorem Monitor.captures_tap (m : Monitor) (d : Dir) (b : Byte) (first : Bool) : m.Captures (m.tap d b first) := by
  unfold Monitor.tap
  split
  · exact .refl m
  · exact .refl m
  · refine m.captures_setDir d _ fun c => MonDir.capture_monCnt_le b ?_
    split
    · rw [MonDir.startEvent_monCnt]; omega
    · exact c

theorem Monitor.captures_storeCrc (m : Monitor) (d : Dir) (c : Word16) : m.Captures (m.storeCrc d c) := by
  unfold Monitor.storeCrc
  dsimp only
  split
  · refine (m.captures_setDir d ((m.dirs.get d).storeCrc c) ?_).trans (Monitor.captures_setDir _ .tx _ ?_)
    · exact fun h => h
    · exact fun h => h
  · exact m.captures_setDir d _ fun h => h

theorem Monitor.captures_endEvent (m : Monitor) (d : Dir) (r : PktInfo) (crc : Option Word16) :
    m.Captures (m.endEvent d r crc) := by
  unfold Monitor.endEvent
  split
  · exact m.captures_setDir d _ fun h => h
  · exact .refl m
  · split
    · exact .refl m
    · exact m.captures_storeCrc d _

/-- The monitor is as it was, or it was enabled and has captured. -/
def Monitor.Reported (m m' : Monitor) : Prop := m' = m ∨ (m.monEnabled = true ∧ m.Captures m')

theorem Monitor.Reported.refl (m : Monitor) : m.Reported m := .inl rfl

theorem Monitor.Reported.captures {m m' : Monitor} (h : m.Reported m') : m.Captures m' := by
  obtain rfl | ⟨-, h⟩ := h
  · exact .refl _
  · exact h

theorem Monitor.Reported.trans {m m' m'' : Monitor} (h : m.Reported m') (h' : m'.Reported m'') : m.Reported m'' := by
  obtain rfl | ⟨on, h⟩ := h
  · exact h'
  · exact .inr ⟨on, h.trans h'.captures⟩

theorem reported_observed (s : State) (f : Monitor → Monitor) (h : s.mon.Captures (f s.mon)) :
    s.mon.Reported (observed s f) := by
  unfold observed
  split
  next on => exact .inr ⟨on.1, h⟩
  next => exact .refl _

theorem reported_tap (s : State) (d : Dir) (b : Byte) (first : Bool) : s.mon.Reported (tap s d b first).mon := by
  rw [tap_eq]; exact reported_observed s (fun m => m.tap d b first) (s.mon.captures_tap d b first)

theorem reported_endEvent (s : State) (d : Dir) (r : PktInfo) (crc : Option Word16) :
    s.mon.Reported (endEvent s d r crc).mon := by
  rw [endEvent_eq]; exact reported_observed s (fun m => m.endEvent d r crc) (s.mon.captures_endEvent d r crc)

theorem reported_latchLen (s : State) (d : Dir) (n : Nat) : s.mon.Reported (latchLen s d n).mon := by
  rw [latchLen_eq]; exact reported_observed s (fun m => m.latched d n) (s.mon.captures_setDir d _ fun h => h)

theorem reported_tapRest (d : Dir) (l : List Byte) : ∀ s : State, s.mon.Reported (tapRest s d l).mon := by
  induction l with
  | nil => exact fun s => .refl _
  | cons b l ih => exact fun s => (reported_tap s d b false).trans (ih (tap s d b false))

theorem reported_tapHeader (s : State) (d : Dir) (l : List Byte) : s.mon.Reported (tapHeader s d l).mon := by
  cases l with
  | nil => exact .refl _
  | cons b l => exact (reported_tap s d b true).trans (reported_tapRest d l _)

/-! ## What every step of the hub core leaves -/

/-- What a step of the hub core never writes, and what it does to the monitor (10_state.md R23 to R34). -/
structure CoreFrame (s t : State) : Prop where
  prm : t.prm = s.prm
  schedule : t.schedule = s.schedule
  bypassMode : t.bypassMode = s.bypassMode
  pg : t.pg = s.pg
  xoffPollCount : t.xoffPollCount = s.xoffPollCount
  now : t.now = s.now
  irqMasked : t.irqMasked = s.irqMasked
  mon : s.mon.Reported t.mon

theorem CoreFrame.of_mon_eq {s t : State} (prm : t.prm = s.prm) (schedule : t.schedule = s.schedule)
    (bypassMode : t.bypassMode = s.bypassMode) (pg : t.pg = s.pg) (xoffPollCount : t.xoffPollCount = s.xoffPollCount)
    (now : t.now = s.now) (irqMasked : t.irqMasked = s.irqMasked) (mon : t.mon = s.mon) : CoreFrame s t :=
  ⟨prm, schedule, bypassMode, pg, xoffPollCount, now, irqMasked, .inl mon⟩

theorem CoreFrame.trans {s t u : State} (h : CoreFrame s t) (h' : CoreFrame t u) : CoreFrame s u :=
  ⟨h'.prm.trans h.prm, h'.schedule.trans h.schedule, h'.bypassMode.trans h.bypassMode, h'.pg.trans h.pg,
    h'.xoffPollCount.trans h.xoffPollCount, h'.now.trans h.now, h'.irqMasked.trans h.irqMasked, h.mon.trans h'.mon⟩

theorem coreFrame_refl (s : State) : CoreFrame s s := .of_mon_eq rfl rfl rfl rfl rfl rfl rfl rfl

theorem coreFrame_setPort (s : State) (p : Port) (q : PortState) : CoreFrame s (s.setPort p q) :=
  .of_mon_eq rfl rfl rfl rfl rfl rfl rfl rfl

theorem coreFrame_consume (s : State) (p : Port) : CoreFrame s (consume s p) :=
  .of_mon_eq rfl rfl rfl rfl rfl rfl rfl rfl

theorem coreFrame_setParser (s : State) (p : Port) (r : Parser) : CoreFrame s (s.setParser p r) :=
  coreFrame_setPort s p _

theorem coreFrame_pushTx (s : State) (p : Port) (b : Byte) : CoreFrame s (s.pushTx p b) := coreFrame_setPort s p _

theorem coreFrame_raiseFault (s : State) (k : FaultKind) (p : Port) : CoreFrame s (raiseFault s k p) :=
  .of_mon_eq rfl rfl rfl rfl rfl rfl rfl rfl

theorem coreFrame_progress (s : State) (p : Port) (d : Option Port) : CoreFrame s (progress s p d) := by
  apply CoreFrame.of_mon_eq <;> simp

theorem coreFrame_completeFrame (s : State) (p : Port) : CoreFrame s (completeFrame s p) := by
  apply CoreFrame.of_mon_eq <;> simp

theorem coreFrame_tap (s : State) (d : Dir) (b : Byte) (first : Bool) : CoreFrame s (tap s d b first) := by
  refine ⟨?_, ?_, ?_, ?_, ?_, ?_, ?_, reported_tap s d b first⟩ <;> simp

theorem coreFrame_tapRest (s : State) (d : Dir) (l : List Byte) : CoreFrame s (tapRest s d l) := by
  refine ⟨?_, ?_, ?_, ?_, ?_, ?_, ?_, reported_tapRest d l s⟩ <;> simp

theorem coreFrame_tapHeader (s : State) (d : Dir) (l : List Byte) : CoreFrame s (tapHeader s d l) := by
  refine ⟨?_, ?_, ?_, ?_, ?_, ?_, ?_, reported_tapHeader s d l⟩ <;> simp

theorem coreFrame_endEvent (s : State) (d : Dir) (r : PktInfo) (crc : Option Word16) :
    CoreFrame s (endEvent s d r crc) := by
  refine ⟨?_, ?_, ?_, ?_, ?_, ?_, ?_, reported_endEvent s d r crc⟩ <;> simp

theorem coreFrame_latchLen (s : State) (d : Dir) (n : Nat) : CoreFrame s (latchLen s d n) := by
  refine ⟨?_, ?_, ?_, ?_, ?_, ?_, ?_, reported_latchLen s d n⟩ <;> simp

/-! ## The ports after the parts of a step -/

theorem port_consume_eq (s : State) (p q : Port) : (consume s p).port q = movedPort s p none [] q := by
  rw [port_consume]
  by_cases h : q = p
  · subst h; simp [movedPort, State.avail]
  · simp [movedPort, h]

theorem port_pushAllTx_eq (s : State) (d q : Port) (l : List Byte) :
    (s.pushAllTx d l).port q =
      { s.port q with txFifo := if some d = some q then s.txFifo q ++ l else s.txFifo q } := by
  rw [State.port_pushAllTx]
  by_cases h : q = d
  · subst h; simp
  · simp [h, Ne.symm h]

theorem port_consume_pushAllTx (s : State) (p d q : Port) (l : List Byte) :
    ((consume s p).pushAllTx d l).port q = movedPort s p (some d) l q := by
  rw [port_pushAllTx_eq, State.txFifo, port_consume_eq]
  simp [movedPort]

theorem port_consume_pushTx (s : State) (p d q : Port) (b : Byte) :
    ((consume s p).pushTx d b).port q = movedPort s p (some d) [b] q := port_consume_pushAllTx s p d q [b]

theorem port_setParser_eq (s : State) (p q : Port) (r : Parser) :
    (s.setParser p r).port q = { s.port q with rxp := if q = p then r else s.rxp q } := by
  rw [State.port_setParser]
  by_cases h : q = p
  · subst h; simp
  · simp [h]

theorem port_setPhase_eq (s : State) (p q : Port) (ph : Phase) :
    (setPhase s p ph).port q = { s.port q with rxp := if q = p then { s.rxp p with phase := ph } else s.rxp q } :=
  port_setParser_eq s p q _

theorem restartedTimers_congr {s u : State} {q : Port} (h : (u.port q).tmo = (s.port q).tmo) (p : Port)
    (d : Option Port) : restartedTimers u p d q = restartedTimers s p d q := by
  simp only [restartedTimers, State.timer, State.tmo, h]

theorem completedTimers_congr {s u : State} {q : Port} (h : (u.port q).tmo = (s.port q).tmo) (hp : u.prm = s.prm)
    (p d : Port) : completedTimers u p d q = completedTimers s p d q := by
  simp only [completedTimers, restartedTimers_congr h, State.tmo, h, State.inc, hp]

/-- The end of a frame restarts the timers itself. -/
theorem completedTimers_of_restarted {s u : State} {q p d : Port} (h : (u.port q).tmo = restartedTimers s p (some d) q)
    (hp : u.prm = s.prm) : completedTimers u p d q = completedTimers s p d q := by
  simp only [completedTimers, restartedTimers, State.timer, State.tmo, h, State.inc, hp, PerDir.get_tx, PerDir.get_rx]
  by_cases hq : q = p <;> by_cases hd : d = q <;> simp_all

end Sys2Proof.Machine
end

section
/-!
PROOF. The rules of the hub core one by one (42_framer.md R115 to R131): from a step that is enabled, the case it is and
what it leaves.
-/

namespace Sys2Proof.Machine

/-! ## The cases -/

/-- The ports after a step on the frame of source `p`: a byte consumed, `l` appended toward `d`, the parser `r`, the
timeout records `tm`. -/
def FramePorts (s t : State) (p : Port) (d : Option Port) (l : List Byte) (r : Parser) (tm : Port → PerDir TimeoutRec) :
    Prop :=
  ∀ q, t.port q = { movedPort s p d l q with rxp := if q = p then r else s.rxp q, tmo := tm q }

/-- No fault is raised. -/
def SameFaults (s t : State) : Prop := t.faultBitmap = s.faultBitmap ∧ t.faultTime = s.faultTime

/-- A step of the hub core on source port `p`, by its rule. -/
inductive CoreCase (s : State) (p : Port) (t : State) : Prop
  /-- A byte passes by the parser: a keepalive, an escape, a byte in bypass (R116, R117, R131). -/
  | passed (d : Option Port) (l : List Byte) (room : ∀ q, d = some q → Room s q l.length)
    (owner : t.extOwner = s.extOwner) (faults : SameFaults s t) (ports : ∀ q, t.port q = movedPort s p d l q)
  /-- An undefined first byte is forwarded (R118, R119). -/
  | undefined (d : Port) (b : Byte) (at_hand : AtFirstByte s p b) (cls : classify s.prm.typeMap p b = .undefined)
    (room : Room s d 1) (owner : t.extOwner = s.extOwner)
    (bitmap : t.faultBitmap = s.faultBitmap ||| (1 <<< faultBit .packetTypeError p)) (time : t.faultTime = s.now)
    (ports : ∀ q, t.port q = movedPort s p (some d) [b] q)
  /-- A frame starts (R115). -/
  | started (b : Byte) (sh : Shape) (d : Port) (at_hand : AtFirstByte s p b) (dest : d = .ext ↔ p ≠ .ext)
    (owner : t.extOwner = s.extOwner) (faults : SameFaults s t)
    (ports : FramePorts s t p none []
      { s.rxp p with hdr := [b], shape := sh, dest := d, crc := 0xFFFF, phase := .header } (restartedTimers s p none))
  /-- A header byte is held (R121). -/
  | held (b : Byte) (phase : (s.rxp p).phase = .header) (short : (s.rxp p).hdr.length + 1 < hdrLen (s.rxp p).shape)
    (owner : t.extOwner = s.extOwner) (faults : SameFaults s t)
    (ports : FramePorts s t p none [] { s.rxp p with hdr := (s.rxp p).hdr ++ [b] } (restartedTimers s p none))
  /-- The last header byte: the header is forwarded, and payload or trailer is to come (R121, R123). -/
  | header (b : Byte) (l : List Byte) (n : Nat) (ph : Phase) (phase : (s.rxp p).phase = .header)
    (bytes : l = (s.rxp p).hdr ++ [b]) (length : n = payloadLength (s.rxp p).shape l)
    (room : Room s (s.rxp p).dest l.length) (free : (s.rxp p).dest = .ext → s.extOwner = none)
    (next : (ph = .payload ∧ 0 < n) ∨ (ph = .crc ∧ n = 0 ∧ s.endsAtPayload p = false))
    (owner : t.extOwner = if (s.rxp p).dest = .ext then asHost p else s.extOwner) (faults : SameFaults s t)
    (ports : FramePorts s t p (some (s.rxp p).dest) l
      { s.rxp p with crc := crc16 l, remain := n, hdr := [], phase := ph } (restartedTimers s p (some (s.rxp p).dest)))
  /-- The last byte of a frame without payload and trailer (R121, R123). -/
  | headerEnd (l : List Byte) (phase : (s.rxp p).phase = .header) (ends : s.endsAtPayload p = true)
    (room : Room s (s.rxp p).dest l.length) (owner : t.extOwner = s.extOwner) (faults : SameFaults s t)
    (ports : FramePorts s t p (some (s.rxp p).dest) l (s.rxp p).atBoundary (completedTimers s p (s.rxp p).dest))
  /-- A payload byte is forwarded, and payload or trailer is to come (R122, R123). -/
  | payload (b : Byte) (ph : Phase) (phase : (s.rxp p).phase = .payload) (room : Room s (s.rxp p).dest 1)
    (next : (ph = .payload ∧ 2 ≤ (s.rxp p).remain) ∨ (ph = .crc ∧ (s.rxp p).remain ≤ 1 ∧ s.endsAtPayload p = false))
    (owner : t.extOwner = s.extOwner) (faults : SameFaults s t)
    (ports : FramePorts s t p (some (s.rxp p).dest) [b]
      { s.rxp p with crc := crcUpdate (s.rxp p).crc b, remain := (s.rxp p).remain - 1, phase := ph }
      (restartedTimers s p (some (s.rxp p).dest)))
  /-- The last byte of a frame without trailer (R122, R123). -/
  | payloadEnd (b : Byte) (phase : (s.rxp p).phase = .payload) (ends : s.endsAtPayload p = true)
    (room : Room s (s.rxp p).dest 1) (owner : t.extOwner = s.extOwner) (faults : SameFaults s t)
    (ports : FramePorts s t p (some (s.rxp p).dest) [b] (s.rxp p).atBoundary (completedTimers s p (s.rxp p).dest))
  /-- A host's trailer is generated (R124). -/
  | sealed (h : HostPort) (l : List Byte) (host : p = hostPort h) (phase : (s.rxp p).phase = .crc)
    (room : Room s .ext l.length) (owner : t.extOwner = none) (faults : SameFaults s t)
    (ports : ∀ q, t.port q = { s.port q with
      txFifo := if q = .ext then s.txFifo q ++ l else s.txFifo q
      rxp := if q = p then (s.rxp p).atBoundary else s.rxp q
      tmo := completedTimers (progress s p (some .ext)) p (s.rxp p).dest q })
  /-- A trailer byte from External that is not the second (R125). -/
  | trailerByte (b : Byte) (ext : p = .ext) (phase : (s.rxp p).phase = .crc) (first : (s.rxp p).trailer.length ≠ 1)
    (owner : t.extOwner = s.extOwner) (faults : SameFaults s t)
    (ports : FramePorts s t p none [] { s.rxp p with trailer := (s.rxp p).trailer ++ [b] }
      (restartedTimers s p (some (s.rxp p).dest)))
  /-- The second trailer byte from External, and the CRCs agree (R125, R126). -/
  | trailerMatch (ext : p = .ext) (phase : (s.rxp p).phase = .crc)
    (owner : t.extOwner = s.extOwner) (faults : SameFaults s t)
    (ports : FramePorts s t p none [] (s.rxp p).atBoundary (completedTimers s p (s.rxp p).dest))
  /-- The second trailer byte from External, and the CRCs differ (R125, R127). -/
  | trailerMismatch (t0 t1 : Byte) (ext : p = .ext) (phase : (s.rxp p).phase = .crc)
    (trailer : (s.rxp p).trailer = [t0]) (at_hand : AtByte s p t1) (differ : t1 ++ t0 ≠ (s.rxp p).crc)
    (owner : t.extOwner = s.extOwner)
    (bitmap : t.faultBitmap = s.faultBitmap ||| (1 <<< faultBit .crcError (s.rxp p).dest)) (time : t.faultTime = s.now)
    (ports : ∀ q, t.port q = { movedPort s p none [] q with
      crcErrCount :=
        if q = (s.rxp p).dest then s.inc (s.port q).crcErrCount else (s.port q).crcErrCount
      rxp := if q = p then (s.rxp p).atBoundary else s.rxp q
      tmo := completedTimers s p (s.rxp p).dest q })

/-! ## The rules at a boundary -/

/-- Setting the parser and restarting the timers, on ports that are known. -/
theorem port_progress_setParser {s u : State} {q : Port} {x : PortState} (h : u.port q = x)
    (htmo : x.tmo = (s.port q).tmo) (hrxp : x.rxp = s.rxp q) (p : Port) (r : Parser) (d : Option Port) :
    (progress (u.setParser p r) p d).port q =
      { x with rxp := if q = p then r else s.rxp q, tmo := restartedTimers s p d q } := by
  rw [port_progress, port_setParser_eq, restartedTimers_congr (s := s), h, State.rxp, h, hrxp]
  rw [State.setParser_port_tmo, h, htmo]

theorem framePorts_frameStart (s : State) (p : Port) (b : Byte) (sh : Shape) (d : Port) :
    FramePorts s (frameStart s p b sh d) p none []
      { s.rxp p with hdr := [b], shape := sh, dest := d, crc := 0xFFFF, phase := .header } (restartedTimers s p none) :=
  fun q => port_progress_setParser (port_consume_eq s p q) rfl rfl p _ none

theorem coreFrame_frameStart (s : State) (p : Port) (b : Byte) (sh : Shape) (d : Port) :
    CoreFrame s (frameStart s p b sh d) :=
  ((coreFrame_consume s p).trans (coreFrame_setParser _ p _)).trans (coreFrame_progress _ p none)

theorem frameStartStep_case {s t : State} {p : Port} {b : Byte} {h : HostPort} {sh : Shape}
    (at_hand : AtFirstByte s p b) (e : frameStartStep s p b h sh = some t) : CoreFrame s t ∧ CoreCase s p t := by
  unfold frameStartStep at e
  split at e <;> cases e
  next =>
    refine ⟨(coreFrame_frameStart s _ b sh _).trans (coreFrame_tap _ _ _ _),
      .started b sh (hostPort h) at_hand ?_ ?_ ?_ ?_⟩
    · simp
    · simp [frameStart]
    · exact ⟨by simp [frameStart], by simp [frameStart]⟩
    · exact fun q => (tap_port _ _ _ _ q).trans (framePorts_frameStart s .ext b sh (hostPort h) q)
  next hp =>
    exact ⟨coreFrame_frameStart s p b sh .ext, .started b sh .ext at_hand (by simpa using hp) rfl ⟨rfl, rfl⟩
      (framePorts_frameStart s p b sh .ext)⟩

theorem keepaliveStep_case {s t : State} {b : Byte} (e : keepaliveStep s b = some t) :
    CoreFrame s t ∧ CoreCase s .ext t := by
  cases e
  refine ⟨((coreFrame_consume s _).trans (coreFrame_tap _ _ _ _)).trans (coreFrame_endEvent _ _ _ _),
    .passed none [] nofun ?_ ?_ ?_⟩
  · simp
  · exact ⟨by simp, by simp⟩
  · exact fun q => by simp [port_consume_eq]

theorem escapeStep_case {s t : State} {b : Byte} {h : HostPort} (e : escapeStep s b h = some t) :
    CoreFrame s t ∧ CoreCase s .ext t := by
  unfold escapeStep at e
  split at e <;> cases e
  next room =>
  refine ⟨(((coreFrame_consume s _).trans (coreFrame_pushTx _ _ _)).trans (coreFrame_tap _ _ _ _)).trans
    (coreFrame_endEvent _ _ _ _), .passed (some (hostPort h)) [b] ?_ ?_ ?_ ?_⟩
  · rintro q ⟨⟩
    exact (s.le_avail _ (Nat.le_refl 1)).mp room
  · simp
  · exact ⟨by simp, by simp⟩
  · exact fun q => by simp [port_consume_pushTx]

theorem undefinedExtStep_case {s t : State} {b : Byte} (at_hand : AtFirstByte s .ext b)
    (cls : classify s.prm.typeMap .ext b = .undefined) (e : undefinedExtStep s b = some t) :
    CoreFrame s t ∧ CoreCase s .ext t := by
  unfold undefinedExtStep at e
  split at e <;> cases e
  next room =>
  refine ⟨((((coreFrame_consume s _).trans (coreFrame_pushTx _ _ _)).trans (coreFrame_raiseFault _ _ _)).trans
    (coreFrame_tap _ _ _ _)).trans (coreFrame_endEvent _ _ _ _), .undefined .h0 b at_hand cls ?_ ?_ ?_ ?_ ?_⟩
  · exact (s.le_avail _ (Nat.le_refl 1)).mp room
  · simp
  · simp
  · simp
  · exact fun q => by simp [port_consume_pushTx]

theorem undefinedHostStep_case {s t : State} {b : Byte} {h : HostPort} (at_hand : AtFirstByte s (hostPort h) b)
    (cls : classify s.prm.typeMap (hostPort h) b = .undefined) (e : undefinedHostStep s h b = some t) :
    CoreFrame s t ∧ CoreCase s (hostPort h) t := by
  unfold undefinedHostStep at e
  split at e <;> cases e
  next room =>
  refine ⟨((((coreFrame_consume s _).trans (coreFrame_pushTx _ _ _)).trans (coreFrame_raiseFault _ _ _)).trans
    (coreFrame_tap _ _ _ _)).trans (coreFrame_endEvent _ _ _ _), .undefined .ext b at_hand cls ?_ ?_ ?_ ?_ ?_⟩
  · exact (s.le_avail _ (Nat.le_refl 1)).mp room.2
  · simp
  · simp
  · simp
  · exact fun q => by simp [port_consume_pushTx]

theorem boundaryStep_case {s t : State} {p : Port} {b : Byte} (at_hand : AtFirstByte s p b)
    (e : boundaryStep s p b = some t) : CoreFrame s t ∧ CoreCase s p t := by
  have named := classify_standsFor s.prm.typeMap p b
  unfold boundaryStep at e
  split at e
  next cls => rw [cls] at named; obtain ⟨rfl, -⟩ := named; exact keepaliveStep_case e
  next cls => rw [cls] at named; obtain ⟨rfl, -⟩ := named; exact escapeStep_case e
  next => exact frameStartStep_case at_hand e
  next cls =>
    split at e
    next h hh => obtain rfl := asHost_eq_some.mp hh; exact undefinedHostStep_case at_hand cls e
    next hn => obtain rfl := asHost_eq_none.mp hn; exact undefinedExtStep_case at_hand cls e

/-! ## The header -/

theorem headerHold_case {s : State} {p : Port} {b : Byte} (phase : (s.rxp p).phase = .header)
    (short : (s.rxp p).hdr.length + 1 < hdrLen (s.rxp p).shape) :
    CoreFrame s (headerHold s p b) ∧ CoreCase s p (headerHold s p b) := by
  have ports : FramePorts s (progress ((consume s p).setParser p { s.rxp p with hdr := (s.rxp p).hdr ++ [b] }) p none) p
      none [] { s.rxp p with hdr := (s.rxp p).hdr ++ [b] } (restartedTimers s p none) :=
    fun q => port_progress_setParser (port_consume_eq s p q) rfl rfl p _ none
  have frame := ((coreFrame_consume s p).trans
    (coreFrame_setParser _ p { s.rxp p with hdr := (s.rxp p).hdr ++ [b] })).trans (coreFrame_progress _ p none)
  unfold headerHold
  dsimp only
  split
  · refine ⟨frame.trans (coreFrame_tap _ _ _ _), .held b phase short ?_ ?_ ?_⟩
    · simp
    · exact ⟨by simp, by simp⟩
    · exact fun q => (tap_port _ _ _ _ q).trans (ports q)
  · refine ⟨frame, .held b phase short ?_ ?_ ports⟩
    · simp
    · exact ⟨by simp, by simp⟩

end Sys2Proof.Machine
end

section
/-!
PROOF. The rules of the hub core on the header's last byte, the payload and the trailers, the bypass, and the inversion
lemma of a whole step (42_framer.md R121 to R131).
-/

namespace Sys2Proof.Machine

/-! ## The parts the rules share -/

theorem FramePorts.congr {s t u : State} {p : Port} {d : Option Port} {l : List Byte} {r : Parser}
    {tm : Port → PerDir TimeoutRec} (h : FramePorts s t p d l r tm) (hu : ∀ q, u.port q = t.port q) :
    FramePorts s u p d l r tm :=
  fun q => (hu q).trans (h q)

theorem FramePorts.rxp {s t : State} {p : Port} {d : Option Port} {l : List Byte} {r : Parser}
    {tm : Port → PerDir TimeoutRec} (h : FramePorts s t p d l r tm) (q : Port) :
    t.rxp q = if q = p then r else s.rxp q := by
  rw [State.rxp, h q]

theorem FramePorts.tmo {s t : State} {p : Port} {d : Option Port} {l : List Byte} {r : Parser}
    {tm : Port → PerDir TimeoutRec} (h : FramePorts s t p d l r tm) (q : Port) : (t.port q).tmo = tm q := by rw [h q]

theorem FramePorts.setPhase {s t : State} {p : Port} {d : Option Port} {l : List Byte} {r : Parser}
    {tm : Port → PerDir TimeoutRec} (h : FramePorts s t p d l r tm) (ph : Phase) :
    FramePorts s (setPhase t p ph) p d l { r with phase := ph } tm := by
  intro q
  rw [port_setPhase_eq, h q, h.rxp q, h.rxp p, if_pos rfl]
  by_cases hq : q = p <;> simp [hq]

/-- The end of a frame whose timers the step has restarted already. -/
theorem FramePorts.complete {s t : State} {p e : Port} {d : Option Port} {l : List Byte} {r : Parser}
    (h : FramePorts s t p d l r (restartedTimers s p (some e))) (dest : r.dest = e) (prm : t.prm = s.prm) :
    FramePorts s (completeFrame t p) p d l r.atBoundary (completedTimers s p e) := by
  intro q
  rw [port_completeFrame, h.rxp q, h.rxp p, if_pos rfl, dest, completedTimers_of_restarted (h.tmo q) prm, h q]
  by_cases hq : q = p <;> simp [hq]

theorem one_lt_hdrLen (sh : Shape) : 1 < hdrLen sh := by cases sh <;> decide

theorem endsAtPayload_congr {s u : State} (h : u.prm = s.prm) (p : Port) : u.endsAtPayload p = s.endsAtPayload p := by
  simp only [State.endsAtPayload, h]

/-- Only a frame from External can end without a trailer (42_framer.md R123). -/
theorem eq_ext_of_endsAtPayload {s : State} {p : Port} (h : s.endsAtPayload p = true) :
    p = .ext ∧ s.prm.extRxCrc = false := by
  simpa [State.endsAtPayload, asHost_eq_none] using h

theorem coreFrame_endUncheckedFrame (s : State) (p d : Port) (n : Word16) :
    CoreFrame s (endUncheckedFrame s p d n) := by
  unfold endUncheckedFrame
  split
  · exact coreFrame_endEvent _ _ _ _
  · exact coreFrame_refl s

@[simp] theorem endUncheckedFrame_port (s : State) (p d : Port) (n : Word16) (q : Port) :
    (endUncheckedFrame s p d n).port q = s.port q := by
  unfold endUncheckedFrame; split <;> simp
@[simp] theorem endUncheckedFrame_extOwner (s : State) (p d : Port) (n : Word16) :
    (endUncheckedFrame s p d n).extOwner = s.extOwner := by
  unfold endUncheckedFrame; split <;> simp
theorem endUncheckedFrame_faults (s : State) (p d : Port) (n : Word16) :
    SameFaults s (endUncheckedFrame s p d n) := by
  unfold endUncheckedFrame; split <;> exact ⟨by simp, by simp⟩

theorem SameFaults.refl (s : State) : SameFaults s s := ⟨rfl, rfl⟩

theorem SameFaults.trans {s t u : State} (h : SameFaults s t) (h' : SameFaults t u) : SameFaults s u :=
  ⟨h'.1.trans h.1, h'.2.trans h.2⟩

theorem sameFaults_completeFrame (s : State) (p : Port) : SameFaults s (completeFrame s p) := ⟨by simp, by simp⟩

/-- After the payload of a frame that has a trailer (42_framer.md R123). -/
theorem afterPayload_of_trailer {s : State} {p : Port} (h : s.endsAtPayload p = false) :
    afterPayload s p = setPhase s p .crc := by
  rw [afterPayload, h]; rfl

/-- After the payload of a frame that has none (42_framer.md R123). -/
theorem afterPayload_of_ends {s : State} {p : Port} (h : s.endsAtPayload p = true) :
    afterPayload s p = completeFrame s p := by
  rw [afterPayload, if_pos h]

/-! ## The last byte of a header -/

theorem framePorts_headerForward (s : State) (p : Port) (b : Byte) :
    FramePorts s (headerForward s p b) p (some (s.rxp p).dest) ((s.rxp p).hdr ++ [b])
      { s.rxp p with
        crc := crc16 ((s.rxp p).hdr ++ [b]), remain := payloadLength (s.rxp p).shape ((s.rxp p).hdr ++ [b]), hdr := [] }
      (restartedTimers s p (some (s.rxp p).dest)) := by
  have owner : ∀ (u : State) (q : Port),
      (progress (if (s.rxp p).dest = .ext then u.setOwner (asHost p) else u) p (some (s.rxp p).dest)).port q =
        (progress u p (some (s.rxp p).dest)).port q := by
    intro u q
    split <;> rfl
  exact fun q => (owner _ q).trans
    (port_progress_setParser (port_consume_pushAllTx s p (s.rxp p).dest q _) rfl rfl p _ (some (s.rxp p).dest))

theorem headerForward_extOwner (s : State) (p : Port) (b : Byte) :
    (headerForward s p b).extOwner = if (s.rxp p).dest = .ext then asHost p else s.extOwner := by
  unfold headerForward
  dsimp only
  split <;> simp

theorem coreFrame_headerForward (s : State) (p : Port) (b : Byte) : CoreFrame s (headerForward s p b) := by
  unfold headerForward
  dsimp only
  refine CoreFrame.trans ?_ (coreFrame_progress _ _ _)
  split <;> exact .of_mon_eq rfl rfl rfl rfl rfl rfl rfl rfl

theorem sameFaults_headerForward (s : State) (p : Port) (b : Byte) : SameFaults s (headerForward s p b) := by
  unfold headerForward
  dsimp only
  split <;> exact ⟨by simp, by simp⟩

theorem coreFrame_headerTaps (s : State) (p : Port) (b : Byte) (l : List Byte) : CoreFrame s (headerTaps s p b l) := by
  unfold headerTaps
  split
  · exact (coreFrame_tap _ _ _ _).trans (coreFrame_latchLen _ _ _)
  · exact (coreFrame_tapHeader _ _ _).trans (coreFrame_latchLen _ _ _)

@[simp] theorem headerTaps_port (s : State) (p : Port) (b : Byte) (l : List Byte) (q : Port) :
    (headerTaps s p b l).port q = s.port q := by
  unfold headerTaps; split <;> simp
@[simp] theorem headerTaps_extOwner (s : State) (p : Port) (b : Byte) (l : List Byte) :
    (headerTaps s p b l).extOwner = s.extOwner := by
  unfold headerTaps; split <;> simp
theorem sameFaults_headerTaps (s : State) (p : Port) (b : Byte) (l : List Byte) :
    SameFaults s (headerTaps s p b l) := by
  unfold headerTaps; split <;> exact ⟨by simp, by simp⟩

theorem headerFits_iff (s : State) (p : Port) :
    s.headerFits p = true ↔
      Room s (s.rxp p).dest (hdrLen (s.rxp p).shape) ∧ ((s.rxp p).dest = .ext → s.extOwner = none) := by
  simp only [State.headerFits, Bool.and_eq_true, decide_eq_true_eq, Bool.or_eq_true, Option.isNone_iff_eq_none,
    s.le_avail _ (one_lt_hdrLen _).le]
  exact and_congr_right fun _ => ⟨fun h hd => h.resolve_left (not_not_intro hd), fun h => or_iff_not_imp_left.mpr
    fun hd => h (not_not.mp hd)⟩

theorem headerLast_case {s : State} {p : Port} {b : Byte} (phase : (s.rxp p).phase = .header)
    (room : Room s (s.rxp p).dest ((s.rxp p).hdr ++ [b]).length) (free : (s.rxp p).dest = .ext → s.extOwner = none) :
    CoreFrame s (headerLast s p b) ∧ CoreCase s p (headerLast s p b) := by
  generalize hl : (s.rxp p).hdr ++ [b] = l at room
  generalize hn : payloadLength (s.rxp p).shape l = n
  generalize hu : headerTaps (headerForward s p b) p b l = u
  have frame : CoreFrame s u := hu ▸ (coreFrame_headerForward s p b).trans (coreFrame_headerTaps _ _ _ _)
  have ports := (framePorts_headerForward s p b).congr (u := u) fun q => by rw [← hu, headerTaps_port]
  have owner : u.extOwner = if (s.rxp p).dest = .ext then asHost p else s.extOwner := by
    rw [← hu, headerTaps_extOwner, headerForward_extOwner]
  have faults : SameFaults s u := hu ▸ (sameFaults_headerForward s p b).trans (sameFaults_headerTaps _ _ _ _)
  have ends_iff := endsAtPayload_congr frame.prm p
  simp only [headerLast, hl, hn, hu] at ports ⊢
  by_cases hpos : 0 < n
  · rw [if_pos hpos]
    exact ⟨frame.trans (coreFrame_setParser u p _),
      .header b l n .payload phase hl.symm hn.symm room free (.inl ⟨rfl, hpos⟩) owner faults (ports.setPhase .payload)⟩
  · rw [if_neg hpos]
    cases ends : s.endsAtPayload p with
    | false =>
      rw [afterPayload_of_trailer (ends_iff.trans ends)]
      refine ⟨(frame.trans (coreFrame_setParser u p _)).trans (coreFrame_endUncheckedFrame _ _ _ _),
        .header b l n .crc phase hl.symm hn.symm room free (.inr ⟨rfl, by omega, ends⟩) ?_ ?_ ?_⟩
      · rw [endUncheckedFrame_extOwner]; exact owner
      · exact faults.trans (endUncheckedFrame_faults (setPhase u p .crc) p _ _)
      · exact (ports.setPhase .crc).congr fun q => endUncheckedFrame_port _ _ _ _ q
    | true =>
      obtain ⟨rfl, -⟩ := eq_ext_of_endsAtPayload ends
      rw [afterPayload_of_ends (ends_iff.trans ends)]
      refine ⟨(frame.trans (coreFrame_completeFrame u _)).trans (coreFrame_endUncheckedFrame _ _ _ _),
        .headerEnd l phase ends room ?_ ?_ ?_⟩
      · rw [endUncheckedFrame_extOwner, completeFrame_extOwner, if_pos rfl, owner]
        split
        next hd => exact (free hd).symm
        next => rfl
      · exact (faults.trans (sameFaults_completeFrame u _)).trans (endUncheckedFrame_faults _ _ _ _)
      · exact (ports.complete rfl frame.prm).congr fun q => endUncheckedFrame_port _ _ _ _ q

theorem headerStep_case {s t : State} {p : Port} {b : Byte} (phase : (s.rxp p).phase = .header)
    (e : headerStep s p b = some t) : CoreFrame s t ∧ CoreCase s p t := by
  unfold headerStep at e
  dsimp only at e
  split at e
  next short => cases e; exact headerHold_case phase short
  next =>
    split at e <;> cases e
    next full =>
    obtain ⟨len, fits⟩ := full
    obtain ⟨room, free⟩ := (headerFits_iff s p).mp fits
    exact headerLast_case phase (by simpa [len] using room) free

/-! ## The payload -/

theorem framePorts_payloadForward (s : State) (p : Port) (b : Byte) :
    FramePorts s (payloadForward s p b) p (some (s.rxp p).dest) [b]
      { s.rxp p with crc := crcUpdate (s.rxp p).crc b, remain := (s.rxp p).remain - 1 }
      (restartedTimers s p (some (s.rxp p).dest)) :=
  fun q => port_progress_setParser (port_consume_pushTx s p (s.rxp p).dest q b) rfl rfl p _ (some (s.rxp p).dest)

theorem coreFrame_payloadTap (s : State) (p : Port) (b : Byte) : CoreFrame s (payloadTap s p b) := by
  unfold payloadTap; split <;> exact coreFrame_tap _ _ _ _

@[simp] theorem payloadTap_port (s : State) (p : Port) (b : Byte) (q : Port) :
    (payloadTap s p b).port q = s.port q := by
  unfold payloadTap; split <;> simp
@[simp] theorem payloadTap_extOwner (s : State) (p : Port) (b : Byte) : (payloadTap s p b).extOwner = s.extOwner := by
  unfold payloadTap; split <;> simp
theorem sameFaults_payloadTap (s : State) (p : Port) (b : Byte) : SameFaults s (payloadTap s p b) := by
  unfold payloadTap; split <;> exact ⟨by simp, by simp⟩

theorem payloadStep_case {s t : State} {p : Port} {b : Byte} (phase : (s.rxp p).phase = .payload)
    (e : payloadStep s p b = some t) : CoreFrame s t ∧ CoreCase s p t := by
  unfold payloadStep at e
  dsimp only at e
  split at e
  case isFalse => cases e
  next room =>
  replace room : Room s (s.rxp p).dest 1 := (s.le_avail _ (Nat.le_refl 1)).mp room
  generalize hu : payloadTap (payloadForward s p b) p b = u at e
  have frame : CoreFrame s u := by
    rw [← hu]
    exact (((coreFrame_consume s p).trans (coreFrame_pushTx _ (s.rxp p).dest b)).trans
      (coreFrame_setParser _ p _)).trans (coreFrame_progress _ p _) |>.trans (coreFrame_payloadTap _ _ _)
  have ports := (framePorts_payloadForward s p b).congr (u := u) fun q => by rw [← hu, payloadTap_port]
  have owner : u.extOwner = s.extOwner := by rw [← hu, payloadTap_extOwner]; simp [payloadForward]
  have faults : SameFaults s u := by
    rw [← hu]
    exact SameFaults.trans ⟨by simp [payloadForward], by simp [payloadForward]⟩ (sameFaults_payloadTap _ _ _)
  have ends_iff := endsAtPayload_congr frame.prm p
  split at e
  next last =>
    cases ends : s.endsAtPayload p with
    | false =>
      rw [afterPayload_of_trailer (ends_iff.trans ends)] at e
      cases e
      refine ⟨(frame.trans (coreFrame_setParser u p _)).trans (coreFrame_endUncheckedFrame _ _ _ _),
        .payload b .crc phase room (.inr ⟨rfl, by omega, ends⟩) ?_ ?_ ?_⟩
      · rw [endUncheckedFrame_extOwner]; exact owner
      · exact faults.trans (endUncheckedFrame_faults (setPhase u p .crc) p _ _)
      · exact (ports.setPhase .crc).congr fun q => endUncheckedFrame_port _ _ _ _ q
    | true =>
      obtain ⟨rfl, -⟩ := eq_ext_of_endsAtPayload ends
      rw [afterPayload_of_ends (ends_iff.trans ends)] at e
      cases e
      refine ⟨(frame.trans (coreFrame_completeFrame u _)).trans (coreFrame_endUncheckedFrame _ _ _ _),
        .payloadEnd b phase ends room ?_ ?_ ?_⟩
      · rw [endUncheckedFrame_extOwner, completeFrame_extOwner, if_pos rfl, owner]
      · exact (faults.trans (sameFaults_completeFrame u _)).trans (endUncheckedFrame_faults _ _ _ _)
      · exact (ports.complete rfl frame.prm).congr fun q => endUncheckedFrame_port _ _ _ _ q
  next more =>
    cases e
    refine ⟨frame, .payload b .payload phase room (.inl ⟨rfl, by omega⟩) owner faults ?_⟩
    rw [← phase]
    exact ports

/-! ## The trailer -/

theorem trailerStep_case {s t : State} {h : HostPort} (phase : (s.rxp (hostPort h)).phase = .crc)
    (e : trailerStep s h = some t) : CoreFrame s t ∧ CoreCase s (hostPort h) t := by
  unfold trailerStep at e
  dsimp only at e
  split at e <;> cases e
  next room =>
  generalize hl : crcTrailer (s.rxp (hostPort h)).crc = l
  have length : l.length = 2 := by subst hl; rfl
  have rxp : ∀ q, (progress (s.pushAllTx .ext l) (hostPort h) (some .ext)).rxp q = s.rxp q := fun q => by
    rw [State.rxp, port_progress, port_pushAllTx_eq]
  have tmo : ∀ q, ((progress (s.pushAllTx .ext l) (hostPort h) (some .ext)).port q).tmo =
      ((progress s (hostPort h) (some .ext)).port q).tmo := fun q => by
    rw [port_progress, port_progress]
    exact restartedTimers_congr (State.pushAllTx_port_tmo s .ext l q) _ _
  refine ⟨?_, .sealed h l rfl phase (by rw [length]; exact (s.le_avail _ (by decide)).mp room) ?_ ?_ ?_⟩
  · exact ((((coreFrame_setPort s .ext _).trans (coreFrame_progress _ _ _)).trans (coreFrame_completeFrame _ _)).trans
      (coreFrame_tapRest _ _ _)).trans (coreFrame_endEvent _ _ _ _)
  · simp [completeFrame_extOwner]
  · exact ⟨by simp, by simp⟩
  · intro q
    rw [endEvent_port, tapRest_port, port_completeFrame, rxp, rxp, completedTimers_congr (tmo q) (by simp),
      port_progress, port_pushAllTx_eq]
    simp only [Option.some.injEq, eq_comm (a := Port.ext)]

theorem framePorts_trailerTake (s : State) (b : Byte) :
    FramePorts s (trailerTake s b) .ext none [] { s.rxp .ext with trailer := (s.rxp .ext).trailer ++ [b] }
      (restartedTimers s .ext (some (s.rxp .ext).dest)) :=
  fun q => port_progress_setParser (port_consume_eq s .ext q) rfl rfl .ext _ (some (s.rxp .ext).dest)

theorem coreFrame_trailerTake (s : State) (b : Byte) : CoreFrame s (trailerTake s b) := by
  unfold trailerTake
  exact ((coreFrame_consume s .ext).trans (coreFrame_setParser _ .ext _)).trans (coreFrame_progress _ .ext _)

/-- The ports after a CRC mismatch: one count more than without it (42_framer.md R127). -/
theorem port_crcFail (s : State) (p q : Port) :
    (crcFail s p).port q =
      { s.port q with crcErrCount := if q = p then s.inc (s.port q).crcErrCount else (s.port q).crcErrCount } := by
  rw [crcFail, raiseFault_port, State.port_incCrcErr]
  by_cases h : q = p
  · subst h; simp
  · simp [h]

theorem sameFaults_trailerTake (s : State) (b : Byte) : SameFaults s (trailerTake s b) :=
  ⟨by simp [trailerTake], by simp [trailerTake]⟩

theorem trailerTake_extOwner (s : State) (b : Byte) : (trailerTake s b).extOwner = s.extOwner := by simp [trailerTake]

/-- The end of a frame after a CRC mismatch, on ports whose timers the step has restarted already. -/
theorem port_completeFrame_crcFail {s u : State} {p d : Port} {r : Parser}
    (h : FramePorts s u p none [] r (restartedTimers s p (some d))) (dest : r.dest = d) (prm : u.prm = s.prm)
    (q : Port) :
    (completeFrame (crcFail u d) p).port q = { movedPort s p none [] q with
      crcErrCount := if q = d then s.inc (s.port q).crcErrCount else (s.port q).crcErrCount
      rxp := if q = p then r.atBoundary else s.rxp q
      tmo := completedTimers s p d q } := by
  have rxp : ∀ q, (crcFail u d).rxp q = if q = p then r else s.rxp q := fun q => by
    rw [State.rxp, port_crcFail]; exact h.rxp q
  have tmo : ((crcFail u d).port q).tmo = restartedTimers s p (some d) q := by rw [port_crcFail]; exact h.tmo q
  rw [port_completeFrame, rxp q, rxp p, if_pos rfl, dest, completedTimers_of_restarted (u := crcFail u d) tmo prm,
    port_crcFail, h q]
  by_cases hq : q = p <;> simp [hq, movedPort, State.inc, prm]

theorem trailerRxStep_case {s t : State} {b : Byte} (at_hand : AtByte s .ext b) (phase : (s.rxp .ext).phase = .crc)
    (e : trailerRxStep s b = some t) : CoreFrame s t ∧ CoreCase s .ext t := by
  have frame := coreFrame_trailerTake s b
  have ports := framePorts_trailerTake s b
  have owner := trailerTake_extOwner s b
  have faults := sameFaults_trailerTake s b
  unfold trailerRxStep at e
  dsimp only at e
  generalize trailerTake s b = u at e frame ports owner faults
  split at e
  next t0 t1 two =>
    obtain ⟨trailer, rfl⟩ : (s.rxp .ext).trailer = [t0] ∧ b = t1 := by
      have := List.append_inj' (show (s.rxp .ext).trailer ++ [b] = [t0] ++ [t1] from two) rfl
      exact ⟨this.1, by simpa using this.2⟩
    split at e <;> cases e
    next =>
      refine ⟨((frame.trans (coreFrame_completeFrame _ _)).trans (coreFrame_tap _ _ _ _)).trans
        (coreFrame_endEvent _ _ _ _), .trailerMatch rfl phase ?_ ?_ ?_⟩
      · simp [completeFrame_extOwner, owner]
      · exact (faults.trans (sameFaults_completeFrame u .ext)).trans ⟨by simp, by simp⟩
      · exact (ports.complete rfl frame.prm).congr fun q => by simp
    next differ =>
      refine ⟨((((frame.trans (coreFrame_setPort _ (s.rxp .ext).dest _)).trans (coreFrame_raiseFault _ _ _)).trans
        (coreFrame_completeFrame _ _)).trans (coreFrame_tap _ _ _ _)).trans (coreFrame_endEvent _ _ _ _),
        .trailerMismatch t0 b rfl phase trailer at_hand differ ?_ ?_ ?_ ?_⟩
      · simp [completeFrame_extOwner, owner, crcFail, State.incCrcErr]
      · simp [crcFail, State.incCrcErr, faults.1]
      · simp [crcFail, State.incCrcErr, frame.now]
      · exact fun q => ((endEvent_port _ _ _ _ q).trans (tap_port _ _ _ _ q)).trans
          (port_completeFrame_crcFail ports rfl frame.prm q)
  next other =>
    cases e
    refine ⟨frame.trans (coreFrame_tap _ _ _ _), .trailerByte b rfl phase ?_ ?_ ?_ ?_⟩
    · intro one
      obtain ⟨t0, ht⟩ := List.length_eq_one_iff.mp one
      exact other t0 b (by rw [ht]; rfl)
    · simp [owner]
    · exact faults.trans ⟨by simp, by simp⟩
    · exact ports.congr fun q => tap_port _ _ _ _ q

/-! ## Bypass, and the whole step -/

theorem passThrough_case {s t : State} {p q : Port} (e : passThrough s p q = some t) :
    CoreFrame s t ∧ CoreCase s p t := by
  unfold passThrough at e
  split at e
  · cases e
  next b rest _ =>
    split at e <;> cases e
    next room =>
    refine ⟨(coreFrame_consume s p).trans (coreFrame_pushTx _ q b), .passed (some q) [b] ?_ rfl ⟨rfl, rfl⟩ ?_⟩
    · rintro r ⟨⟩
      exact (s.le_avail _ (Nat.le_refl 1)).mp room
    · exact fun r => port_consume_pushTx s p q r b

theorem bypassStep_case {s t : State} {p : Port} (e : bypassStep s p = some t) : CoreFrame s t ∧ CoreCase s p t := by
  cases p with
  | h0 => exact passThrough_case e
  | h1 => cases e
  | h2 => cases e
  | ext => exact passThrough_case e

/-- What a step of the hub core is (42_framer.md R129). -/
theorem coreStep_case {s t : State} {p : Port} (e : coreStep s p = some t) : CoreFrame s t ∧ CoreCase s p t := by
  obtain ⟨gate, ⟨-, hb⟩ | ⟨-, g, hg, phase, ht⟩ | ⟨framed, no_trailer, b, rest, hr, hbyte⟩⟩ := coreStep_cases e
  · exact bypassStep_case hb
  · obtain rfl := asHost_eq_some.mp hg
    exact trailerStep_case phase ht
  · have at_hand : AtByte s p b := ⟨gate, framed, by rw [hr]; rfl⟩
    unfold byteStep at hbyte
    split at hbyte
    next phase => exact boundaryStep_case ⟨at_hand, phase⟩ hbyte
    next phase => exact headerStep_case phase hbyte
    next phase => exact payloadStep_case phase hbyte
    next phase =>
      obtain rfl : p = .ext := asHost_eq_none.mp (no_trailer.resolve_right (not_not_intro phase))
      exact trailerRxStep_case at_hand phase hbyte

theorem coreFrame_of_coreStep {s t : State} {p : Port} (e : coreStep s p = some t) : CoreFrame s t :=
  (coreStep_case e).1

theorem coreCase_of_coreStep {s t : State} {p : Port} (e : coreStep s p = some t) : CoreCase s p t :=
  (coreStep_case e).2

end Sys2Proof.Machine
end

section
/-!
PROOF. What the resets and a tick do to one port (42_framer.md R132, R133, 43_timeout.md R148, 45_flowcontrol.md R190,
R191), and what a tick leaves of the rest of the state.
-/

namespace Sys2Proof.Machine

/-- A relation that holds along every step of a fold holds from its start to its end. -/
theorem foldl_rel {α σ : Type} {R : σ → σ → Prop} (refl : ∀ s, R s s) (trans : ∀ {s t u}, R s t → R t u → R s u)
    {f : σ → α → σ} (step : ∀ s a, R s (f s a)) (l : List α) : ∀ s, R s (l.foldl f s) := by
  induction l with
  | nil => exact refl
  | cons a l ih => exact fun s => trans (step s a) (ih (f s a))

/-! ## Resets of parsers -/

/-- Port record `q'` is `q` with a new parser and new timers only. -/
structure Restarted (q q' : PortState) : Prop where
  rest : q' = { q with rxp := q'.rxp, tmo := q'.tmo }
  tmo : ∀ d, q'.tmo.get d = { q.tmo.get d with timer := (q'.tmo.get d).timer }

theorem Restarted.refl (q : PortState) : Restarted q q := ⟨rfl, fun _ => rfl⟩

theorem Restarted.trans {q q' q'' : PortState} (h : Restarted q q') (h' : Restarted q' q'') : Restarted q q'' := by
  refine ⟨?_, fun d => ?_⟩
  · rw [h'.rest, h.rest]
  · rw [h'.tmo d, h.tmo d]

theorem restarted_parserReset (s : State) (p q : Port) : Restarted (s.port q) ((parserReset s p).port q) := by
  rw [port_parserReset]
  exact ⟨rfl, fun d => by cases d <;> rfl⟩

/-! ## A tick, port by port -/

/-- Port record `q'` is what a tick can make of `q`: settings and byte counts are kept, FIFOs and XOFF are kept or
cleared. -/
structure Ticked (c : Params) (q q' : PortState) : Prop where
  rest : q' = { q with
    txFifo := q'.txFifo, rxFifo := q'.rxFifo, xoffAsserted := q'.xoffAsserted, xoffDetected := q'.xoffDetected
    sleepReq := q'.sleepReq, rxp := q'.rxp, tmo := q'.tmo }
  flow : (q'.txFifo = q.txFifo ∧ q'.rxFifo = q.rxFifo ∧ q'.xoffAsserted = q.xoffAsserted) ∨
    (q'.txFifo = [] ∧ q'.rxFifo = [] ∧ q'.xoffAsserted = false)
  sleep : q'.sleepReq = true → q.sleepReq = true
  tmo : ∀ d, q'.tmo.get d =
    { q.tmo.get d with timer := (q'.tmo.get d).timer, timeoutCount := (q'.tmo.get d).timeoutCount }
  count : ∀ d, (q'.tmo.get d).timeoutCount = (q.tmo.get d).timeoutCount ∨
    (q'.tmo.get d).timeoutCount < 2 ^ c.cntWidth

theorem Ticked.refl (c : Params) (q : PortState) : Ticked c q q :=
  ⟨rfl, .inl ⟨rfl, rfl, rfl⟩, id, fun _ => rfl, fun _ => .inl rfl⟩

theorem Ticked.trans {c : Params} {q q' q'' : PortState} (h : Ticked c q q') (h' : Ticked c q' q'') :
    Ticked c q q'' := by
  refine ⟨?_, ?_, fun e => h.sleep (h'.sleep e), fun d => ?_, fun d => ?_⟩
  · rw [h'.rest, h.rest]
  · obtain ⟨tx, rx, xoff⟩ | cleared := h'.flow
    · rw [tx, rx, xoff]; exact h.flow
    · exact .inr cleared
  · rw [h'.tmo d, h.tmo d]
  · obtain same | small := h'.count d
    · rw [same]; exact h.count d
    · exact .inr small

theorem Restarted.ticked {q q' : PortState} (h : Restarted q q') (c : Params) : Ticked c q q' := by
  obtain ⟨rest, tmo⟩ := h
  refine ⟨?_, .inl ?_, ?_, fun d => ?_, fun d => .inl ?_⟩
  · rw [rest]
  · rw [rest]; exact ⟨rfl, rfl, rfl⟩
  · rw [rest]; exact id
  · rw [tmo d]
  · rw [tmo d]

/-- The parameters stay, and every port is ticked: what the parts of a tick have in common. -/
def PortsTicked (s t : State) : Prop := t.prm = s.prm ∧ ∀ q, Ticked s.prm (s.port q) (t.port q)

theorem PortsTicked.refl (s : State) : PortsTicked s s := ⟨rfl, fun _ => .refl _ _⟩

theorem PortsTicked.trans {s t u : State} (h : PortsTicked s t) (h' : PortsTicked t u) : PortsTicked s u :=
  ⟨h'.1.trans h.1, fun q => (h.2 q).trans (h.1 ▸ h'.2 q)⟩

theorem portsTicked_parserReset (s : State) (p : Port) : PortsTicked s (parserReset s p) :=
  ⟨parserReset_prm s p, fun q => (restarted_parserReset s p q).ticked _⟩

/-- A strict expiry is a parser reset or nothing (43_timeout.md R149, R151). -/
theorem resync_cases (s : State) (p : Port) (d : Dir) :
    (resync s p d = s ∧ resyncSource s p d = none) ∨
    ∃ r, resync s p d = parserReset s r ∧ resyncSource s p d = some r := by
  cases d with
  | rx => exact .inr ⟨p, rfl, rfl⟩
  | tx =>
    obtain rfl | ⟨h, rfl⟩ := ext_or_hostPort p
    · cases ho : s.extOwner with
      | none => exact .inl ⟨by simp only [resync, ho], by simp [resyncSource, ho]⟩
      | some h => exact .inr ⟨hostPort h, by simp only [resync, ho], by simp [resyncSource, ho]⟩
    · refine .inr ⟨.ext, ?_, by simp [resyncSource]⟩
      cases h <;> rfl

theorem portsTicked_resync (s : State) (p : Port) (d : Dir) : PortsTicked s (resync s p d) := by
  obtain ⟨h, -⟩ | ⟨r, h, -⟩ := resync_cases s p d <;> rw [h]
  · exact .refl s
  · exact portsTicked_parserReset s r

theorem State.inc_lt (s : State) (n : Nat) : s.inc n < 2 ^ s.prm.cntWidth := Nat.mod_lt _ (Nat.two_pow_pos _)

/-- The timeout records after one of them is replaced. -/
theorem port_setTmo_eq (s : State) (p q : Port) (d : Dir) (x : TimeoutRec) :
    (s.setTmo p d x).port q =
      { s.port q with tmo := if q = p then (s.port q).tmo.set d x else (s.port q).tmo } := by
  rw [State.port_setTmo]
  by_cases h : q = p
  · subst h; simp
  · simp [h]

/-- Replacing the timer and the timeout count of one record. -/
theorem portsTicked_setTmo (s : State) (p : Port) (d : Dir) (x : TimeoutRec)
    (hx : x = { s.tmo p d with timer := x.timer, timeoutCount := x.timeoutCount })
    (hc : x.timeoutCount = (s.tmo p d).timeoutCount ∨ x.timeoutCount < 2 ^ s.prm.cntWidth) :
    PortsTicked s (s.setTmo p d x) := by
  refine ⟨rfl, fun q => ?_⟩
  rw [port_setTmo_eq]
  refine ⟨rfl, .inl ⟨rfl, rfl, rfl⟩, id, fun e => ?_, fun e => ?_⟩ <;> dsimp only <;> split
  next h =>
    subst h
    rw [PerDir.get_set]
    split
    next h => subst h; exact hx
    next => rfl
  next => rfl
  next h =>
    subst h
    rw [PerDir.get_set]
    split
    next h => subst h; exact hc
    next => exact .inl rfl
  next => exact .inl rfl

theorem portsTicked_setTimer (s : State) (p : Port) (d : Dir) (n : Nat) : PortsTicked s (s.setTimer p d n) :=
  portsTicked_setTmo s p d { s.tmo p d with timer := n } rfl (.inl rfl)

theorem portsTicked_incTimeout (s : State) (p : Port) (d : Dir) : PortsTicked s (s.incTimeout p d) :=
  portsTicked_setTmo s p d { s.tmo p d with timeoutCount := s.inc (s.tmo p d).timeoutCount } rfl (.inr (s.inc_lt _))

theorem portsTicked_raiseFault (s : State) (k : FaultKind) (p : Port) : PortsTicked s (raiseFault s k p) :=
  ⟨rfl, fun _ => .refl _ _⟩

/-- An expiry before strict mode acts: the timer restarts, the timeout is counted and raised (43_timeout.md R148). -/
def counted (s : State) (p : Port) (d : Dir) : State :=
  raiseFault ((s.setTimer p d 0).incTimeout p d) .timeoutError p

theorem expire_eq (s : State) (p : Port) (d : Dir) :
    expire s p d = if (s.tmo p d).resyncEnabled = true then resync (counted s p d) p d else counted s p d := rfl

theorem portsTicked_counted (s : State) (p : Port) (d : Dir) : PortsTicked s (counted s p d) :=
  ((portsTicked_setTimer s p d 0).trans (portsTicked_incTimeout _ p d)).trans (portsTicked_raiseFault _ _ _)

theorem portsTicked_expire (s : State) (p : Port) (d : Dir) : PortsTicked s (expire s p d) := by
  rw [expire_eq]
  split
  · exact (portsTicked_counted s p d).trans (portsTicked_resync _ p d)
  · exact portsTicked_counted s p d

theorem portsTicked_superviseOne (s : State) (p : Port) (d : Dir) : PortsTicked s (superviseOne s p d) := by
  obtain ⟨-, h⟩ | ⟨-, -, -, h⟩ | ⟨-, h⟩ := superviseOne_cases s p d <;> rw [h]
  · exact portsTicked_expire s p d
  · exact portsTicked_setTimer s p d _
  · exact .refl s

theorem portsTicked_supervise (s : State) : PortsTicked s (supervise s) :=
  foldl_rel PortsTicked.refl PortsTicked.trans
    (fun s p => (portsTicked_superviseOne s p .rx).trans (portsTicked_superviseOne _ p .tx)) allPorts s

theorem portsTicked_portReset (s : State) (p : Port) : PortsTicked s (portReset s p) := by
  refine ⟨portReset_prm s p, fun q => ?_⟩
  rw [port_portReset]
  by_cases h : q = p
  · subst h
    refine ⟨rfl, .inr ?_, ?_, fun d => by cases d <;> rfl, fun d => .inl (by cases d <;> rfl)⟩ <;> simp
  · refine ⟨rfl, .inl ?_, ?_, fun d => by cases d <;> rfl, fun d => .inl (by cases d <;> rfl)⟩ <;> simp [h]

theorem portsTicked_recoverPort (s : State) (p : Port) : PortsTicked s (recoverPort s p) := by
  refine ⟨recoverPort_prm s p, fun q => ?_⟩
  rw [port_recoverPort]
  exact (portsTicked_portReset s p).2 q

theorem portsTicked_recovery (s : State) : PortsTicked s (recovery s) :=
  foldl_rel PortsTicked.refl PortsTicked.trans portsTicked_recoverPort allPorts s

/-- The stuck-XOFF poll: nothing is stuck, it counts, or it recovers (45_flowcontrol.md R190). -/
theorem xoffPoll_cases (s : State) :
    xoffPoll s = s.setPoll 0 ∨
    (s.xoffPollCount + 1 < s.prm.xoffPollMax ∧ xoffPoll s = s.setPoll (s.xoffPollCount + 1)) ∨
    xoffPoll s = (recovery s).setPoll 0 := by
  unfold xoffPoll
  split
  · split
    · exact .inr (.inr rfl)
    · exact .inr (.inl ⟨by omega, rfl⟩)
  · exact .inl rfl

theorem portsTicked_xoffPoll (s : State) : PortsTicked s (xoffPoll s) := by
  obtain h | ⟨-, h⟩ | h := xoffPoll_cases s <;> rw [h]
  · exact .refl s
  · exact .refl s
  · exact portsTicked_recovery s

/-- Either the power FSM leaves the hub in IDLE, or supervisor and poll run (60_exceptions.md R230). -/
theorem tickState_cases (s : State) (a : Ack) :
    tickState s a = tickGate s a ∨ tickState s a = xoffPoll (supervise (tickGate s a)) := by
  unfold tickState
  split
  · exact .inl rfl
  · exact .inr rfl

theorem portsTicked_tickState (s : State) (a : Ack) : PortsTicked s (tickState s a) := by
  have gate : PortsTicked s (tickGate s a) := ⟨rfl, fun _ => .refl _ _⟩
  obtain h | h := tickState_cases s a <;> rw [h]
  · exact gate
  · exact (gate.trans (portsTicked_supervise _)).trans (portsTicked_xoffPoll _)

/-! ## The rest of the state over a tick -/

@[simp] theorem xoffPoll_schedule (s : State) : (xoffPoll s).schedule = s.schedule := by
  obtain h | ⟨-, h⟩ | h := xoffPoll_cases s <;> simp [h]
@[simp] theorem xoffPoll_bypassMode (s : State) : (xoffPoll s).bypassMode = s.bypassMode := by
  obtain h | ⟨-, h⟩ | h := xoffPoll_cases s <;> simp [h]
@[simp] theorem xoffPoll_pg (s : State) : (xoffPoll s).pg = s.pg := by
  obtain h | ⟨-, h⟩ | h := xoffPoll_cases s <;> simp [h]
@[simp] theorem xoffPoll_now (s : State) : (xoffPoll s).now = s.now := by
  obtain h | ⟨-, h⟩ | h := xoffPoll_cases s <;> simp [h]
@[simp] theorem xoffPoll_faultBitmap (s : State) : (xoffPoll s).faultBitmap = s.faultBitmap := by
  obtain h | ⟨-, h⟩ | h := xoffPoll_cases s <;> simp [h]
@[simp] theorem xoffPoll_faultTime (s : State) : (xoffPoll s).faultTime = s.faultTime := by
  obtain h | ⟨-, h⟩ | h := xoffPoll_cases s <;> simp [h]
@[simp] theorem xoffPoll_irqMasked (s : State) : (xoffPoll s).irqMasked = s.irqMasked := by
  obtain h | ⟨-, h⟩ | h := xoffPoll_cases s <;> simp [h]
@[simp] theorem xoffPoll_mon (s : State) : (xoffPoll s).mon = s.mon := by
  obtain h | ⟨-, h⟩ | h := xoffPoll_cases s <;> simp [h]

@[simp] theorem tickState_prm (s : State) (a : Ack) : (tickState s a).prm = s.prm := (portsTicked_tickState s a).1
@[simp] theorem tickState_schedule (s : State) (a : Ack) : (tickState s a).schedule = s.schedule := by
  obtain h | h := tickState_cases s a <;> simp [h]
@[simp] theorem tickState_bypassMode (s : State) (a : Ack) : (tickState s a).bypassMode = s.bypassMode := by
  obtain h | h := tickState_cases s a <;> simp [h]
@[simp] theorem tickState_pg (s : State) (a : Ack) : (tickState s a).pg = s.pg.tick s.prm a := by
  obtain h | h := tickState_cases s a <;> simp [h]
@[simp] theorem tickState_now (s : State) (a : Ack) : (tickState s a).now = s.inc s.now := by
  obtain h | h := tickState_cases s a <;> simp [h]
@[simp] theorem tickState_irqMasked (s : State) (a : Ack) : (tickState s a).irqMasked = s.irqMasked := by
  obtain h | h := tickState_cases s a <;> simp [h]
@[simp] theorem tickState_mon (s : State) (a : Ack) : (tickState s a).mon = s.mon := by
  obtain h | h := tickState_cases s a <;> simp [h]

end Sys2Proof.Machine
end

section
/-!
PROOF. What one event can do to one port: the case of a step of the hub core, and then one inversion lemma over all
events.
-/

namespace Sys2Proof.Machine

/-! ## A port over a step of the hub core -/

/-- Port record `x` is what a step of the hub core on source port `p` can make of port `q`. -/
structure CorePort (s : State) (p q : Port) (x : PortState) : Prop where
  rest : x = { s.port q with
    txFifo := x.txFifo, rxFifo := x.rxFifo, xoffAsserted := x.xoffAsserted, crcErrCount := x.crcErrCount
    rxp := x.rxp, tmo := x.tmo }
  tx : x.txFifo = s.txFifo q ∨ ∃ l, Room s q l.length ∧ x.txFifo = s.txFifo q ++ l
  rx : (x.rxFifo = s.rxFifo q ∧ x.xoffAsserted = (s.port q).xoffAsserted) ∨
    (q = p ∧ x.rxFifo = (s.rxFifo q).tail ∧
      x.xoffAsserted = xoffLevel s.prm (s.port q).xoffAsserted (s.prm.fifoDepth - (s.rxFifo q).tail.length))
  crcErr : x.crcErrCount = (s.port q).crcErrCount ∨
    (p = .ext ∧ (s.rxp p).phase = .crc ∧ q = (s.rxp p).dest ∧ x.crcErrCount = s.inc (s.port q).crcErrCount)
  rxp : q ≠ p → x.rxp = s.rxp q
  tmo : ∀ d, x.tmo.get d = { s.tmo q d with timer := (x.tmo.get d).timer, packetCount := (x.tmo.get d).packetCount }
  packets : ∀ d, (x.tmo.get d).packetCount = (s.tmo q d).packetCount ∨
    ((s.rxp p).phase ≠ .boundary ∧ (x.tmo.get d).packetCount = s.inc (s.tmo q d).packetCount)

theorem movedPort_tx {s : State} {p q : Port} {d : Option Port} {l : List Byte}
    (room : ∀ r, d = some r → Room s r l.length) :
    (movedPort s p d l q).txFifo = s.txFifo q ∨
      ∃ l', Room s q l'.length ∧ (movedPort s p d l q).txFifo = s.txFifo q ++ l' := by
  unfold movedPort
  by_cases h : d = some q
  · exact .inr ⟨l, room q h, if_pos h⟩
  · exact .inl (if_neg h)

theorem movedPort_rx (s : State) (p q : Port) (d : Option Port) (l : List Byte) :
    ((movedPort s p d l q).rxFifo = s.rxFifo q ∧
      (movedPort s p d l q).xoffAsserted = (s.port q).xoffAsserted) ∨
    (q = p ∧ (movedPort s p d l q).rxFifo = (s.rxFifo q).tail ∧
      (movedPort s p d l q).xoffAsserted =
        xoffLevel s.prm (s.port q).xoffAsserted (s.prm.fifoDepth - (s.rxFifo q).tail.length)) := by
  unfold movedPort
  by_cases h : q = p
  · exact .inr ⟨h, if_pos h, if_pos h⟩
  · exact .inl ⟨if_neg h, if_neg h⟩

theorem corePort_moved {s : State} {p : Port} {d : Option Port} {l : List Byte}
    (room : ∀ r, d = some r → Room s r l.length) (q : Port) : CorePort s p q (movedPort s p d l q) :=
  ⟨rfl, movedPort_tx room, movedPort_rx s p q d l, .inl rfl, fun _ => rfl, fun _ => rfl, fun _ => .inl rfl⟩

/-- Timeout records of which the timers only have changed. -/
theorem restartedTimers_get (s : State) (p : Port) (e : Option Port) (q : Port) (d : Dir) :
    (restartedTimers s p e q).get d =
      { s.tmo q d with timer := ((restartedTimers s p e q).get d).timer } := by
  cases d <;> rfl

theorem completedTimers_get (s : State) (p e q : Port) (d : Dir) :
    (completedTimers s p e q).get d =
      { s.tmo q d with
        timer := ((completedTimers s p e q).get d).timer
        packetCount := ((completedTimers s p e q).get d).packetCount } := by
  cases d <;> rfl

theorem completedTimers_packetCount (s : State) (p e q : Port) (d : Dir) :
    ((completedTimers s p e q).get d).packetCount = (s.tmo q d).packetCount ∨
      ((completedTimers s p e q).get d).packetCount = s.inc (s.tmo q d).packetCount := by
  cases d with
  | tx =>
    by_cases h : q = e
    · exact .inr (if_pos h)
    · exact .inl (if_neg h)
  | rx =>
    by_cases h : q = p
    · exact .inr (if_pos h)
    · exact .inl (if_neg h)

theorem FramePorts.corePort_restarted {s t : State} {p : Port} {d e : Option Port} {l : List Byte} {r : Parser}
    (h : FramePorts s t p d l r (restartedTimers s p e)) (room : ∀ r, d = some r → Room s r l.length) (q : Port) :
    CorePort s p q (t.port q) := by
  rw [h q]
  refine ⟨rfl, movedPort_tx (p := p) room, movedPort_rx s p q d l, .inl rfl, fun hq => if_neg hq, fun d => ?_,
    fun d => .inl ?_⟩
  · rw [restartedTimers_get]
  · dsimp only; rw [restartedTimers_get]

theorem FramePorts.corePort_completed {s t : State} {p e : Port} {d : Option Port} {l : List Byte} {r : Parser}
    (h : FramePorts s t p d l r (completedTimers s p e)) (room : ∀ r, d = some r → Room s r l.length)
    (phase : (s.rxp p).phase ≠ .boundary) (q : Port) : CorePort s p q (t.port q) := by
  rw [h q]
  refine ⟨rfl, movedPort_tx (p := p) room, movedPort_rx s p q d l, .inl rfl, fun hq => if_neg hq, fun d => ?_,
    fun d => ?_⟩
  · rw [completedTimers_get]
  · exact (completedTimers_packetCount s p e q d).imp id fun h => ⟨phase, h⟩

theorem room_some {s : State} {p : Port} {n : Nat} (h : Room s p n) : ∀ r, some p = some r → Room s r n := by
  rintro r ⟨⟩
  exact h

/-- What a step of the hub core does to each port. -/
theorem CoreCase.corePort {s t : State} {p : Port} (h : CoreCase s p t) (q : Port) : CorePort s p q (t.port q) := by
  cases h with
  | passed d l room owner faults ports => rw [ports q]; exact corePort_moved room q
  | undefined d b at_hand cls room owner bitmap time ports => rw [ports q]; exact corePort_moved (room_some room) q
  | started b sh d at_hand dest owner faults ports => exact ports.corePort_restarted nofun q
  | held b phase short owner faults ports => exact ports.corePort_restarted nofun q
  | header b l n ph phase bytes length room free next owner faults ports =>
    exact ports.corePort_restarted (room_some room) q
  | headerEnd l phase ends room owner faults ports =>
    exact ports.corePort_completed (room_some room) (by simp [phase]) q
  | payload b ph phase room next owner faults ports => exact ports.corePort_restarted (room_some room) q
  | payloadEnd b phase ends room owner faults ports =>
    exact ports.corePort_completed (room_some room) (by simp [phase]) q
  | sealed h l host phase room owner faults ports =>
    rw [ports q]
    have progressed : ∀ d, (progress s p (some .ext)).tmo q d =
        { s.tmo q d with timer := (progress s p (some .ext)).timer q d } :=
      fun d => by rw [State.timer, State.tmo, port_progress]; exact restartedTimers_get s p _ q d
    refine ⟨rfl, ?_, .inl ⟨rfl, rfl⟩, .inl rfl, fun hq => if_neg hq, fun d => ?_, fun d => ?_⟩
    · by_cases hq : q = .ext
      · subst hq; exact .inr ⟨l, room, by simp⟩
      · exact .inl (if_neg hq)
    · dsimp only; rw [completedTimers_get, progressed]
    · have := completedTimers_packetCount (progress s p (some .ext)) p (s.rxp p).dest q d
      rw [progressed, State.inc, progress_prm] at this
      exact this.imp id fun h => ⟨by simp [phase], h⟩
  | trailerByte b ext phase first owner faults ports => exact ports.corePort_restarted nofun q
  | trailerMatch ext phase owner faults ports => exact ports.corePort_completed nofun (by simp [phase]) q
  | trailerMismatch t0 t1 ext phase trailer at_hand differ owner bitmap time ports =>
    rw [ports q]
    refine ⟨rfl, .inl rfl, movedPort_rx s p q none [], ?_, fun hq => if_neg hq, fun d => ?_, fun d => ?_⟩
    · by_cases hq : q = (s.rxp p).dest
      · exact .inr ⟨ext, phase, hq, if_pos hq⟩
      · exact .inl (if_neg hq)
    · dsimp only; rw [completedTimers_get]
    · exact (completedTimers_packetCount s p _ q d).imp id fun h => ⟨by simp [phase], h⟩

/-! ## A port over one event -/

/-- Port record `x` is what event `i` can make of port `r`. -/
inductive PortEffect (s : State) (i : Instr) (r : Port) : PortState → Prop
  | same : PortEffect s i r (s.port r)
  | baud (n : BitVec 3) (k : Fin 4) (event : i = .configBaud r n) :
    PortEffect s i r { s.port r with baudRateIndex := k }
  | dma (d : DirField) (en tx rx : Bool) (event : i = .setDma r d en) :
    PortEffect s i r { s.port r with dmaTxEnabled := tx, dmaRxEnabled := rx }
  | loop (d : DirField) (en : Bool) (w : Wiring) (event : i = .configLoopback r d en) :
    PortEffect s i r { s.port r with loop := w }
  | timeout (d : DirField) (en rs : Bool) (per : BitVec 14) (hper : 1 ≤ per.toNat)
    (event : i = .configTimeout r d en rs per) :
    PortEffect s i r { s.port r with tmo := configuredTmo (s.port r).tmo d en rs per.toNat }
  | parsers (en : Bool) (event : i = .setBypass en) (x : PortState) (restarted : Restarted (s.port r) x) :
    PortEffect s i r x
  | reset (p : Port) (event : i = .resetPort p) : PortEffect s i r ((portReset s p).port r)
  | written (b : Byte) (room : Room s r 1) (event : i = .writeByte r b) :
    PortEffect s i r { s.port r with txFifo := s.txFifo r ++ [b] }
  | read (event : i = .readByte r) : PortEffect s i r (movedPort s r none [] r)
  | received (b : Byte) (event : i = .lineIn r b) : PortEffect s i r ((lineInject s r b).port r)
  | sent (event : i = .lineOut r) : PortEffect s i r ((transmit s r).port r)
  | looped (p : Port) (b : Byte) (event : i = .lineOut p) (loops : LoopsInto s p r) :
    PortEffect s i r ((lineInject (transmit s p) r b).port r)
  | flow (b : Bool) (event : i = .lineXoff r ∨ i = .lineXon r) :
    PortEffect s i r { s.port r with xoffDetected := b }
  | ticked (a : Ack) (event : i = .tick a) (x : PortState) (ticked : Ticked s.prm (s.port r) x) : PortEffect s i r x
  | core (p : Port) (runs : RunsCore s i p) (x : PortState) (moved : CorePort s p r x) : PortEffect s i r x

/-- An event that replaces the record of port `p` by `y` leaves the others. -/
theorem PortEffect.of_setPort {s : State} {i : Instr} {p : Port} {y : PortState} (h : PortEffect s i p y) (r : Port) :
    PortEffect s i r ((s.setPort p y).port r) := by
  rw [State.port_setPort]
  split
  next hr => subst hr; exact h
  next => exact .same

/-- The ports after a byte has left by the wire (40_port_fifo.md R93, R96). -/
theorem portEffect_lineOut (s : State) (p r : Port) (b : Byte) :
    PortEffect s (.lineOut p) r ((wireByte (transmit s p) p b).port r) := by
  have sent : PortEffect s (.lineOut p) r ((transmit s p).port r) := by
    by_cases hr : r = p
    · subst hr; exact .sent rfl
    · rw [port_transmit, if_neg hr]; exact .same
  have wiring : ((transmit s p).port p).loop = (s.port p).loop := by rw [port_transmit, if_pos rfl]
  have injected : ∀ q, r ≠ q → (lineInject (transmit s p) q b).port r = (transmit s p).port r := fun q hq => by
    rw [port_lineInject, if_pos (.inl hq)]
  unfold wireByte
  rw [wiring]
  split
  · exact sent
  next self =>
    by_cases hr : r = p
    · subst hr; exact .looped r b rfl (.inl ⟨self, rfl⟩)
    · rw [injected p hr]; exact sent
  next ext =>
    by_cases hr : r = .ext
    · subst hr; exact .looped p b rfl (.inr ⟨ext, rfl⟩)
    · rw [injected .ext hr]; exact sent

/-- The parsers after all of them have been reset. -/
theorem restarted_resetAll (s : State) (r : Port) : Restarted (s.port r) ((allPorts.foldl parserReset s).port r) :=
  foldl_rel (R := fun s t : State => Restarted (s.port r) (t.port r)) (fun _ => .refl _) (fun h h' => h.trans h')
    (fun s p => restarted_parserReset s p r) allPorts s

/-- What an event can do to a port. -/
theorem EventEffect.portEffect {s t : State} {i : Instr} (h : EventEffect s i t) (r : Port) :
    PortEffect s i r (t.port r) := by
  cases h with
  | nothing => exact .same
  | openHub => exact .same
  | closeHub => exact .same
  | setTrx => exact .same
  | clearTrx => exact .same
  | configLoopback p d en w => exact .of_setPort (.loop d en w rfl) r
  | setBypass en => exact .parsers en rfl _ (restarted_resetAll s r)
  | configBaud p n k => exact .of_setPort (.baud n k rfl) r
  | setDma p d en tx rx => exact .of_setPort (.dma d en tx rx rfl) r
  | configTimeout p d en rs per hper => exact .of_setPort (.timeout d en rs per hper rfl) r
  | resetPort p => exact .reset p rfl
  | writeByte p b room => exact .of_setPort (.written b room rfl) r
  | readByte p =>
    by_cases hr : r = p
    · subst hr; rw [port_consume_eq]; exact .read rfl
    · rw [port_consume, if_neg hr]; exact .same
  | irqMask => exact .same
  | irqUnmask => exact .same
  | clearFaults => exact .same
  | monEnable => exact .same
  | monDisable => exact .same
  | monConfig => exact .same
  | lineIn p b =>
    by_cases hr : r = p
    · subst hr; exact .received b rfl
    · rw [port_lineInject, if_pos (.inl hr)]; exact .same
  | lineOut p b => exact portEffect_lineOut s p r b
  | lineXoff p => exact .of_setPort (.flow true (.inl rfl)) r
  | lineXon p => exact .of_setPort (.flow false (.inr rfl)) r
  | tick a => exact .ticked a rfl _ ((portsTicked_tickState s a).2 r)
  | restoreFault => exact .same
  | core i p t runs step => exact .core p runs _ ((coreCase_of_coreStep step).corePort r)

@[simp] theorem wireByte_prm (s : State) (p : Port) (b : Byte) : (wireByte s p b).prm = s.prm := by
  unfold wireByte; split <;> simp
@[simp] theorem wireByte_schedule (s : State) (p : Port) (b : Byte) : (wireByte s p b).schedule = s.schedule := by
  unfold wireByte; split <;> simp
@[simp] theorem wireByte_extOwner (s : State) (p : Port) (b : Byte) : (wireByte s p b).extOwner = s.extOwner := by
  unfold wireByte; split <;> simp
@[simp] theorem wireByte_bypassMode (s : State) (p : Port) (b : Byte) : (wireByte s p b).bypassMode = s.bypassMode := by
  unfold wireByte; split <;> simp
@[simp] theorem wireByte_pg (s : State) (p : Port) (b : Byte) : (wireByte s p b).pg = s.pg := by
  unfold wireByte; split <;> simp
@[simp] theorem wireByte_xoffPollCount (s : State) (p : Port) (b : Byte) :
    (wireByte s p b).xoffPollCount = s.xoffPollCount := by
  unfold wireByte; split <;> simp
@[simp] theorem wireByte_now (s : State) (p : Port) (b : Byte) : (wireByte s p b).now = s.now := by
  unfold wireByte; split <;> simp
@[simp] theorem wireByte_faultBitmap (s : State) (p : Port) (b : Byte) :
    (wireByte s p b).faultBitmap = s.faultBitmap := by
  unfold wireByte; split <;> simp
@[simp] theorem wireByte_faultTime (s : State) (p : Port) (b : Byte) : (wireByte s p b).faultTime = s.faultTime := by
  unfold wireByte; split <;> simp
@[simp] theorem wireByte_irqMasked (s : State) (p : Port) (b : Byte) : (wireByte s p b).irqMasked = s.irqMasked := by
  unfold wireByte; split <;> simp
@[simp] theorem wireByte_mon (s : State) (p : Port) (b : Byte) : (wireByte s p b).mon = s.mon := by
  unfold wireByte; split <;> simp

/-- The parameters and the schedule are no event's (assumption log 1, 2). -/
theorem EventEffect.prm_schedule {s t : State} {i : Instr} (h : EventEffect s i t) :
    t.prm = s.prm ∧ t.schedule = s.schedule := by
  cases h with
  | core i p t runs step => exact ⟨(coreFrame_of_coreStep step).prm, (coreFrame_of_coreStep step).schedule⟩
  | _ => exact ⟨by simp [allPorts], by simp [allPorts]⟩

end Sys2Proof.Machine
end

section
/-!
PROOF. The FIFOs and the hub's own XOFF (10_state.md R12, R13, 45_flowcontrol.md R192): both invariants are one
condition on each port, which every event keeps.
-/

namespace Sys2Proof.Machine

/-- A port's FIFOs are within capacity and its XOFF level agrees with the free space. -/
structure FlowOk (c : Params) (q : PortState) : Prop where
  tx : q.txFifo.length ≤ c.fifoDepth
  rx : q.rxFifo.length ≤ c.fifoDepth
  on : q.xoffAsserted = true → c.fifoDepth - q.rxFifo.length < c.xonAvailHigh
  off : q.xoffAsserted = false → c.xoffAvailLow ≤ c.fifoDepth - q.rxFifo.length

theorem fifoInv_xoffInv_iff (s : State) : FifoInv s ∧ XoffInv s ↔ ∀ p, FlowOk s.prm (s.port p) :=
  ⟨fun ⟨fifo, xoff⟩ p => ⟨(fifo p).1, (fifo p).2, (xoff p).1, (xoff p).2⟩,
    fun h => ⟨fun p => ⟨(h p).tx, (h p).rx⟩, fun p => ⟨(h p).on, (h p).off⟩⟩⟩

/-- The low threshold is below the high one, which is below the capacity (00_scope.md R4). -/
theorem thresholds_of_wf {c : Params} (h : c.Wf) :
    c.xoffAvailLow < c.xonAvailHigh ∧ c.xoffAvailLow ≤ c.fifoDepth := by
  obtain ⟨-, ⟨-, low_lt_high, high_le⟩, -⟩ := h
  omega

/-- The condition reads the two FIFOs and the XOFF level only. -/
theorem FlowOk.congr {c : Params} {q x : PortState} (h : FlowOk c q) (tx : x.txFifo = q.txFifo)
    (rx : x.rxFifo = q.rxFifo) (xoff : x.xoffAsserted = q.xoffAsserted) : FlowOk c x :=
  ⟨tx ▸ h.tx, rx ▸ h.rx, by rw [rx, xoff]; exact h.on, by rw [rx, xoff]; exact h.off⟩

/-- The watermark rule after a change of the RX FIFO (45_flowcontrol.md R189). -/
theorem FlowOk.of_xoffLevel {c : Params} (hc : c.Wf) {x : PortState} {old : Bool}
    (tx : x.txFifo.length ≤ c.fifoDepth) (rx : x.rxFifo.length ≤ c.fifoDepth)
    (xoff : x.xoffAsserted = xoffLevel c old (c.fifoDepth - x.rxFifo.length)) : FlowOk c x := by
  obtain ⟨on, off⟩ := xoffLevel_agrees (thresholds_of_wf hc).1 old (c.fifoDepth - x.rxFifo.length)
  exact ⟨tx, rx, fun e => on (xoff ▸ e), fun e => off (xoff ▸ e)⟩

theorem flowOk_cleared {c : Params} (hc : c.Wf) {x : PortState} (tx : x.txFifo = []) (rx : x.rxFifo = [])
    (xoff : x.xoffAsserted = false) : FlowOk c x := by
  have := thresholds_of_wf hc
  exact ⟨by simp [tx], by simp [rx], by simp [xoff], fun _ => by simp only [rx, List.length_nil]; omega⟩

theorem Ticked.flowOk {c : Params} (hc : c.Wf) {q x : PortState} (h : Ticked c q x) (hq : FlowOk c q) : FlowOk c x := by
  obtain ⟨tx, rx, xoff⟩ | ⟨tx, rx, xoff⟩ := h.flow
  · exact hq.congr tx rx xoff
  · exact flowOk_cleared hc tx rx xoff

theorem CorePort.flowOk {s : State} {p q : Port} {x : PortState} (hc : s.prm.Wf) (h : CorePort s p q x)
    (hq : FlowOk s.prm (s.port q)) : FlowOk s.prm x := by
  -- the RX side first, then the bytes appended to the TX FIFO
  have received : FlowOk s.prm { x with txFifo := s.txFifo q } := by
    obtain ⟨rx, xoff⟩ | ⟨-, rx, xoff⟩ := h.rx
    · exact hq.congr rfl rx xoff
    · refine .of_xoffLevel hc hq.tx ?_ (by rw [xoff, rx])
      have : (s.rxFifo q).length ≤ s.prm.fifoDepth := hq.rx
      rw [rx, List.length_tail]
      omega
  refine ⟨?_, received.rx, received.on, received.off⟩
  obtain tx | ⟨l, room, tx⟩ := h.tx
  · rw [tx]; exact hq.tx
  · rw [tx, List.length_append]; exact room

theorem flowOk_lineInject {s : State} {p : Port} {b : Byte} (hc : s.prm.Wf) (h : FlowOk s.prm (s.port p)) :
    FlowOk s.prm ((lineInject s p b).port p) := by
  rw [port_lineInject]
  split
  · exact h
  · split
    next room => exact .of_xoffLevel hc h.tx (by simpa using room) (by rw [List.length_append]; rfl)
    next => exact h.congr rfl rfl rfl

theorem flowOk_transmit {s : State} {p q : Port} (h : FlowOk s.prm (s.port q)) :
    FlowOk s.prm ((transmit s p).port q) := by
  rw [port_transmit]
  split
  next hq =>
    subst hq
    refine ⟨?_, h.rx, h.on, h.off⟩
    have : (s.txFifo q).length ≤ s.prm.fifoDepth := h.tx
    rw [List.length_tail]
    omega
  next => exact h

/-- Every event keeps the condition on each port. -/
theorem PortEffect.flowOk {s : State} {i : Instr} {r : Port} {x : PortState} (hc : s.prm.Wf) (h : PortEffect s i r x)
    (hr : FlowOk s.prm (s.port r)) : FlowOk s.prm x := by
  cases h with
  | same => exact hr
  | baud => exact hr.congr rfl rfl rfl
  | dma => exact hr.congr rfl rfl rfl
  | loop => exact hr.congr rfl rfl rfl
  | timeout => exact hr.congr rfl rfl rfl
  | parsers en event x restarted => exact (restarted.ticked s.prm).flowOk hc hr
  | reset p => exact ((portsTicked_portReset s p).2 r).flowOk hc hr
  | written b room => exact ⟨by simpa using room, hr.rx, hr.on, hr.off⟩
  | read => exact (corePort_moved (p := r) (d := none) (l := []) nofun r).flowOk hc hr
  | received b => exact flowOk_lineInject hc hr
  | sent => exact flowOk_transmit hr
  | looped p b => exact flowOk_lineInject (s := transmit s p) hc (flowOk_transmit hr)
  | flow => exact hr.congr rfl rfl rfl
  | ticked a event x ticked => exact ticked.flowOk hc hr
  | core p runs x moved => exact moved.flowOk hc hr

theorem EventEffect.flowOk {s t : State} {i : Instr} (hc : s.prm.Wf) (h : EventEffect s i t)
    (hs : ∀ p, FlowOk s.prm (s.port p)) (p : Port) : FlowOk t.prm (t.port p) := by
  rw [h.prm_schedule.1]
  exact (h.portEffect p).flowOk hc (hs p)

/-- Settles O3: the condition on each port is kept by every event, and the parameters do not change. -/
theorem stepKeepsFifoAndXoffInvariants : Obligations.StepKeepsFifoAndXoffInvariants := by
  intro s t hc fifo xoff h
  have kept : t.prm.Wf ∧ ∀ p, FlowOk t.prm (t.port p) := by
    refine step_keeps_of_effect (P := fun s => s.prm.Wf ∧ ∀ p, FlowOk s.prm (s.port p)) ?_ ?_
      ⟨hc, (fifoInv_xoffInv_iff s).mp ⟨fifo, xoff⟩⟩ h
    · exact fun s l r hs => hs
    · rintro i s t ⟨hc, hs⟩ effect
      exact ⟨effect.prm_schedule.1 ▸ hc, effect.flowOk hc hs⟩
  exact (fifoInv_xoffInv_iff t).mpr kept.2

end Sys2Proof.Machine
end

section
/-!
PROOF. The counters (10_state.md R19, R20, R29 to R31, R34): which events move the hub's own ones and how, and the
range of each, port by port.
-/

namespace Sys2Proof.Machine

/-! ## Time, the poll count and the monitor over one event -/

/-- `t` is `s` after fault bits may have been raised at the present time. -/
def RaisedNow (s t : State) : Prop :=
  t.now = s.now ∧ (SameFaults s t ∨ t.faultTime = s.now)

theorem RaisedNow.refl (s : State) : RaisedNow s s := ⟨rfl, .inl (.refl s)⟩

theorem RaisedNow.trans {s t u : State} (h : RaisedNow s t) (h' : RaisedNow t u) : RaisedNow s u := by
  refine ⟨h'.1.trans h.1, ?_⟩
  obtain same | raised := h'.2
  · exact h.2.imp (fun before => before.trans same) fun e => same.2.trans e
  · exact .inr (raised.trans h.1)

theorem raisedNow_superviseOne (s : State) (p : Port) (d : Dir) : RaisedNow s (superviseOne s p d) := by
  obtain ⟨-, h⟩ | ⟨-, -, -, h⟩ | ⟨-, h⟩ := superviseOne_cases s p d <;> rw [h]
  · exact ⟨expire_now s p d, .inr (expire_faultTime s p d)⟩
  · exact ⟨rfl, .inl ⟨rfl, rfl⟩⟩
  · exact .refl s

theorem raisedNow_supervise (s : State) : RaisedNow s (supervise s) :=
  foldl_rel RaisedNow.refl RaisedNow.trans
    (fun s p => (raisedNow_superviseOne s p .rx).trans (raisedNow_superviseOne _ p .tx)) allPorts s

theorem raisedNow_tickState (s : State) (a : Ack) : RaisedNow (tickGate s a) (tickState s a) := by
  obtain h | h := tickState_cases s a <;> rw [h]
  · exact .refl _
  · exact (raisedNow_supervise _).trans ⟨by simp, .inl ⟨by simp, by simp⟩⟩

theorem CoreCase.sameFaults_or_now {s t : State} {p : Port} (h : CoreCase s p t) :
    SameFaults s t ∨ t.faultTime = s.now := by
  cases h with
  | undefined _ _ _ _ _ _ _ time _ => exact .inr time
  | trailerMismatch _ _ _ _ _ _ _ _ _ time _ => exact .inr time
  | _ => exact .inl ‹SameFaults s t›

/-- Time passes at a tick only (10_state.md R31). -/
theorem EventEffect.now {s t : State} {i : Instr} (h : EventEffect s i t) :
    t.now = s.now ∨ ((∃ a, i = .tick a) ∧ t.now = s.inc s.now) := by
  cases h with
  | tick a => exact .inr ⟨⟨a, rfl⟩, tickState_now s a⟩
  | core i p t runs step => exact .inl (coreFrame_of_coreStep step).now
  | _ => exact .inl (by simp [allPorts])

/-- The fault time is kept or is the time of the event (60_exceptions.md R219). -/
theorem EventEffect.faultTime {s t : State} {i : Instr} (h : EventEffect s i t) :
    t.faultTime = s.faultTime ∨ t.faultTime = t.now := by
  cases h with
  | tick a =>
    obtain ⟨now, same | raised⟩ := raisedNow_tickState s a
    · exact .inl same.2
    · exact .inr (raised.trans now.symm)
  | core i p t runs step =>
    obtain same | raised := (coreCase_of_coreStep step).sameFaults_or_now
    · exact .inl same.2
    · exact .inr (raised.trans (coreFrame_of_coreStep step).now.symm)
  | restoreFault p => exact .inr rfl
  | _ => exact .inl (by simp [allPorts])

/-- The poll count at a tick stays, restarts, or advances below its limit (45_flowcontrol.md R190). -/
theorem tickState_xoffPollCount (s : State) (a : Ack) :
    (tickState s a).xoffPollCount = s.xoffPollCount ∨ (tickState s a).xoffPollCount = 0 ∨
      (tickState s a).xoffPollCount < s.prm.xoffPollMax := by
  obtain h | h := tickState_cases s a <;> rw [h]
  · exact .inl rfl
  · obtain h | ⟨below, h⟩ | h := xoffPoll_cases (supervise (tickGate s a)) <;> rw [h]
    · exact .inr (.inl rfl)
    · exact .inr (.inr (by simpa using below))
    · exact .inr (.inl rfl)

/-- The poll count moves at a tick only (10_state.md R30). -/
theorem EventEffect.xoffPollCount {s t : State} {i : Instr} (h : EventEffect s i t) :
    t.xoffPollCount = s.xoffPollCount ∨
      ((∃ a, i = .tick a) ∧ (t.xoffPollCount = 0 ∨ t.xoffPollCount < s.prm.xoffPollMax)) := by
  cases h with
  | tick a => exact (tickState_xoffPollCount s a).imp id fun h => ⟨⟨a, rfl⟩, h⟩
  | core i p t runs step => exact .inl (coreFrame_of_coreStep step).xoffPollCount
  | _ => exact .inl (by simp [allPorts])

/-- Every event keeps the monitor's byte counts in their range (46_monitor.md R204). -/
theorem EventEffect.monCnt_le {s t : State} {i : Instr} (h : EventEffect s i t)
    (hs : ∀ d, (s.mon.dirs.get d).monCnt ≤ 16) (d : Dir) : (t.mon.dirs.get d).monCnt ≤ 16 := by
  have cleared : ((PerDir.all MonDir.cleared).get d).monCnt ≤ 16 := by simp [MonDir.cleared]
  cases h with
  | monEnable => exact cleared
  | monDisable => exact hs d
  | monConfig k rolling mirror md m hm =>
    obtain rfl | rfl := hm
    · exact hs d
    · exact cleared
  | core i p t runs step => exact (coreFrame_of_coreStep step).mon.captures.count hs d
  | _ => simpa [allPorts] using hs d

/-! ## The counters of a port -/

/-- The counters of one port are below 2^CNT_WIDTH. -/
structure CountersOk (c : Params) (q : PortState) : Prop where
  tx : q.txByteCount < 2 ^ c.cntWidth
  rx : q.rxByteCount < 2 ^ c.cntWidth
  crcErr : q.crcErrCount < 2 ^ c.cntWidth
  timeouts : ∀ d, (q.tmo.get d).timeoutCount < 2 ^ c.cntWidth
  packets : ∀ d, (q.tmo.get d).packetCount < 2 ^ c.cntWidth

theorem counterInv_iff (s : State) :
    CounterInv s ↔ (∀ p, CountersOk s.prm (s.port p)) ∧ s.now < 2 ^ s.prm.cntWidth ∧
      s.faultTime < 2 ^ s.prm.cntWidth ∧ s.xoffPollCount < s.prm.xoffPollMax ∧ ∀ d, (s.mon.dirs.get d).monCnt ≤ 16 := by
  constructor
  · rintro ⟨ports, timers, rest⟩
    exact ⟨fun p => ⟨(ports p).1, (ports p).2.1, (ports p).2.2, fun d => (timers p d).1, fun d => (timers p d).2⟩, rest⟩
  · rintro ⟨ports, rest⟩
    exact ⟨fun p => ⟨(ports p).tx, (ports p).rx, (ports p).crcErr⟩,
      fun p d => ⟨(ports p).timeouts d, (ports p).packets d⟩, rest⟩

theorem Ticked.countersOk {c : Params} {q x : PortState} (h : Ticked c q x) (hq : CountersOk c q) : CountersOk c x := by
  refine ⟨?_, ?_, ?_, fun d => ?_, fun d => ?_⟩
  · rw [h.rest]; exact hq.tx
  · rw [h.rest]; exact hq.rx
  · rw [h.rest]; exact hq.crcErr
  · obtain same | below := h.count d
    · rw [same]; exact hq.timeouts d
    · exact below
  · rw [h.tmo d]; exact hq.packets d

theorem CorePort.countersOk {s : State} {p q : Port} {x : PortState} (h : CorePort s p q x)
    (hq : CountersOk s.prm (s.port q)) : CountersOk s.prm x := by
  refine ⟨?_, ?_, ?_, fun d => ?_, fun d => ?_⟩
  · rw [h.rest]; exact hq.tx
  · rw [h.rest]; exact hq.rx
  · obtain same | ⟨-, -, -, counted⟩ := h.crcErr
    · rw [same]; exact hq.crcErr
    · rw [counted]; exact s.inc_lt _
  · rw [h.tmo d]; exact hq.timeouts d
  · obtain same | ⟨-, counted⟩ := h.packets d
    · rw [same]; exact hq.packets d
    · rw [counted]; exact s.inc_lt _

theorem countersOk_lineInject {s : State} {p : Port} {b : Byte} (h : CountersOk s.prm (s.port p)) :
    CountersOk s.prm ((lineInject s p b).port p) := by
  rw [port_lineInject]
  split
  · exact h
  · split
    · exact ⟨h.tx, s.inc_lt _, h.crcErr, h.timeouts, h.packets⟩
    · exact ⟨h.tx, h.rx, h.crcErr, h.timeouts, h.packets⟩

theorem countersOk_transmit {s : State} {p q : Port} (h : CountersOk s.prm (s.port q)) :
    CountersOk s.prm ((transmit s p).port q) := by
  rw [port_transmit]
  split
  next hq => subst hq; exact ⟨s.inc_lt _, h.rx, h.crcErr, h.timeouts, h.packets⟩
  next => exact h

/-- CONFIG_TIMEOUT keeps the counters (43_timeout.md R145). -/
theorem configuredTmo_counts (old : PerDir TimeoutRec) (f : DirField) (en rs : Bool) (per : Nat) (d : Dir) :
    ((configuredTmo old f en rs per).get d).timeoutCount = (old.get d).timeoutCount ∧
      ((configuredTmo old f en rs per).get d).packetCount = (old.get d).packetCount := by
  cases d <;> simp only [configuredTmo, PerDir.get_tx, PerDir.get_rx] <;> split <;> exact ⟨rfl, rfl⟩

/-- Every event keeps the counters of each port in range. -/
theorem PortEffect.countersOk {s : State} {i : Instr} {r : Port} {x : PortState} (h : PortEffect s i r x)
    (hr : CountersOk s.prm (s.port r)) : CountersOk s.prm x := by
  cases h with
  | same => exact hr
  | baud => exact ⟨hr.tx, hr.rx, hr.crcErr, hr.timeouts, hr.packets⟩
  | dma => exact ⟨hr.tx, hr.rx, hr.crcErr, hr.timeouts, hr.packets⟩
  | loop => exact ⟨hr.tx, hr.rx, hr.crcErr, hr.timeouts, hr.packets⟩
  | timeout f en rs per =>
    refine ⟨hr.tx, hr.rx, hr.crcErr, fun d => ?_, fun d => ?_⟩
    · rw [(configuredTmo_counts (s.port r).tmo f en rs per.toNat d).1]; exact hr.timeouts d
    · rw [(configuredTmo_counts (s.port r).tmo f en rs per.toNat d).2]; exact hr.packets d
  | parsers en event x restarted => exact (restarted.ticked s.prm).countersOk hr
  | reset p => exact ((portsTicked_portReset s p).2 r).countersOk hr
  | written => exact ⟨hr.tx, hr.rx, hr.crcErr, hr.timeouts, hr.packets⟩
  | read => exact ⟨hr.tx, hr.rx, hr.crcErr, hr.timeouts, hr.packets⟩
  | received b => exact countersOk_lineInject hr
  | sent => exact countersOk_transmit hr
  | looped p b => exact countersOk_lineInject (s := transmit s p) (countersOk_transmit hr)
  | flow => exact ⟨hr.tx, hr.rx, hr.crcErr, hr.timeouts, hr.packets⟩
  | ticked a event x ticked => exact ticked.countersOk hr
  | core p runs x moved => exact moved.countersOk hr

theorem EventEffect.counterInv {s t : State} {i : Instr} (hc : s.prm.Wf) (h : EventEffect s i t) (hs : CounterInv s) :
    CounterInv t := by
  obtain ⟨ports, now, faultTime, poll, count⟩ := (counterInv_iff s).mp hs
  obtain ⟨_, _, _, _, _, poll_pos, _⟩ := hc
  have now_lt : t.now < 2 ^ s.prm.cntWidth := by
    obtain same | ⟨-, passed⟩ := h.now
    · rw [same]; exact now
    · rw [passed]; exact s.inc_lt _
  rw [counterInv_iff, h.prm_schedule.1]
  refine ⟨fun p => (h.portEffect p).countersOk (ports p), now_lt, ?_, ?_, h.monCnt_le count⟩
  · obtain same | raised := h.faultTime
    · rw [same]; exact faultTime
    · rw [raised]; exact now_lt
  · obtain same | ⟨-, zero | below⟩ := h.xoffPollCount
    · rw [same]; exact poll
    · rw [zero]; exact poll_pos
    · exact below

/-- Settles O6: every counter is kept, restarted, or advanced within its range. -/
theorem stepKeepsTheCounterInvariant : Obligations.StepKeepsTheCounterInvariant := by
  intro s t hc hs h
  refine (step_keeps_of_effect (P := fun s => s.prm.Wf ∧ CounterInv s) ?_ ?_ ⟨hc, hs⟩ h).2
  · exact fun s l r hs => hs
  · rintro i s t ⟨hc, hs⟩ effect
    exact ⟨effect.prm_schedule.1 ▸ hc, effect.counterInv hc hs⟩

end Sys2Proof.Machine
end

section
/-!
PROOF. Which event writes which part of the state ("written by", 10_state.md R12 to R34): first the parts of the whole
hub, then those of one port.
-/

namespace Sys2Proof.Machine

/-! ## The parts of the hub -/

theorem PowerGate.requested_opened (g : PowerGate) : g.requested.opened = g.opened ∧ g.requested.trxReq = g.trxReq := by
  unfold PowerGate.requested; split <;> exact ⟨rfl, rfl⟩

theorem PowerGate.cleared_opened (g : PowerGate) (h : HostPort) (d : DirField) : (g.cleared h d).opened = g.opened := by
  unfold PowerGate.cleared PowerGate.released
  dsimp only
  split
  · rfl
  · split <;> rfl

/-- A tick moves neither the arming nor the requests (10_state.md R26, R28). -/
theorem PowerGate.tick_opened_trxReq (g : PowerGate) (c : Params) (a : Ack) :
    (g.tick c a).opened = g.opened ∧ (g.tick c a).trxReq = g.trxReq := by
  unfold PowerGate.tick
  split
  next => exact ⟨rfl, rfl⟩
  next => exact ⟨rfl, rfl⟩
  next => split <;> exact ⟨rfl, rfl⟩
  next =>
    unfold PowerGate.pollAcquire
    split
    · split <;> exact ⟨rfl, rfl⟩
    · exact ⟨rfl, rfl⟩
  next => unfold PowerGate.settle; split <;> exact ⟨rfl, rfl⟩
  next =>
    unfold PowerGate.pollRelease
    split
    · exact ⟨rfl, rfl⟩
    · split <;> exact ⟨rfl, rfl⟩

theorem EventEffect.pg_written {s t : State} {i : Instr} (h : EventEffect s i t) (hne : t.pg ≠ s.pg) :
    i = .openHub ∨ i = .closeHub ∨ (∃ h d, i = .setTrx h d) ∨ (∃ h d, i = .clearTrx h d) ∨ ∃ a, i = .tick a := by
  cases h with
  | openHub => exact .inl rfl
  | closeHub => exact .inr (.inl rfl)
  | setTrx h d => exact .inr (.inr (.inl ⟨h, d, rfl⟩))
  | clearTrx h d => exact .inr (.inr (.inr (.inl ⟨h, d, rfl⟩)))
  | tick a => exact .inr (.inr (.inr (.inr ⟨a, rfl⟩)))
  | core i p t runs step => exact absurd (coreFrame_of_coreStep step).pg hne
  | _ => exact absurd (by simp [allPorts]) hne

theorem EventEffect.opened_written {s t : State} {i : Instr} (h : EventEffect s i t) (hne : t.opened ≠ s.opened) :
    i = .openHub ∨ i = .closeHub := by
  cases h with
  | openHub => exact .inl rfl
  | closeHub => exact .inr rfl
  | setTrx h d => exact absurd (PowerGate.requested_opened _).1 hne
  | clearTrx h d => exact absurd (PowerGate.cleared_opened _ h d) hne
  | tick a => exact absurd (by rw [State.opened, tickState_pg, (PowerGate.tick_opened_trxReq _ _ _).1]) hne
  | core i p t runs step => exact absurd (congrArg PowerGate.opened (coreFrame_of_coreStep step).pg) hne
  | _ => exact absurd (by simp [State.opened, allPorts]) hne

theorem EventEffect.trxReq_written {s t : State} {i : Instr} (h : EventEffect s i t)
    (hne : t.pg.trxReq ≠ s.pg.trxReq) :
    i = .closeHub ∨ (∃ h d, i = .setTrx h d) ∨ ∃ h d, i = .clearTrx h d := by
  cases h with
  | closeHub => exact .inl rfl
  | setTrx h d => exact .inr (.inl ⟨h, d, rfl⟩)
  | clearTrx h d => exact .inr (.inr ⟨h, d, rfl⟩)
  | tick a => exact absurd (by rw [tickState_pg, (PowerGate.tick_opened_trxReq _ _ _).2]) hne
  | core i p t runs step => exact absurd (congrArg PowerGate.trxReq (coreFrame_of_coreStep step).pg) hne
  | _ => exact absurd (by simp [allPorts]) hne

theorem EventEffect.bypassMode_written {s t : State} {i : Instr} (h : EventEffect s i t)
    (hne : t.bypassMode ≠ s.bypassMode) : ∃ en, i = .setBypass en := by
  cases h with
  | setBypass en => exact ⟨en, rfl⟩
  | core i p t runs step => exact absurd (coreFrame_of_coreStep step).bypassMode hne
  | _ => exact absurd (by simp) hne

/-- The path's owner changes at the last header byte and at the trailer of a host's frame (10_state.md R23). -/
theorem CoreCase.extOwner_written {s t : State} {p : Port} (h : CoreCase s p t) (hne : t.extOwner ≠ s.extOwner) :
    ∃ h, p = hostPort h ∧ (s.rxp p).phase ≠ .boundary := by
  cases h with
  | header b l n ph phase bytes length room free next owner faults ports =>
    obtain rfl | ⟨h, rfl⟩ := ext_or_hostPort p
    · refine absurd ?_ hne
      rw [owner]
      split
      next hd => rw [free hd]; rfl
      next => rfl
    · exact ⟨h, rfl, by simp [phase]⟩
  | sealed h l host phase room owner faults ports => exact ⟨h, host, by simp [phase]⟩
  | _ => exact absurd ‹t.extOwner = s.extOwner› hne

theorem EventEffect.extOwner_written {s t : State} {i : Instr} (h : EventEffect s i t)
    (hne : t.extOwner ≠ s.extOwner) :
    ∃ h, i = .coreRx (hostPort h) ∨ i = .resetPort (hostPort h) ∨ (∃ en, i = .setBypass en) ∨ ∃ a, i = .tick a := by
  cases h with
  | setBypass en => exact ⟨.h0, .inr (.inr (.inl ⟨en, rfl⟩))⟩
  | tick a => exact ⟨.h0, .inr (.inr (.inr ⟨a, rfl⟩))⟩
  | resetPort p =>
    obtain rfl | ⟨h, rfl⟩ := ext_or_hostPort p
    · refine absurd ?_ hne
      rw [portReset_extOwner]
      split
      next none => exact absurd none.2 none.1
      next => rfl
    · exact ⟨h, .inr (.inl rfl)⟩
  | core i p t runs step =>
    obtain ⟨h, rfl, phase⟩ := (coreCase_of_coreStep step).extOwner_written hne
    exact ⟨h, .inl (runs.eq_coreRx phase)⟩
  | _ => exact absurd (by simp) hne

theorem EventEffect.faultBitmap_written {s t : State} {i : Instr} (h : EventEffect s i t)
    (hne : t.faultBitmap ≠ s.faultBitmap) :
    (∃ q, CoreEvent i q) ∨ (∃ a, i = .tick a) ∨ (∃ q, i = .restoreFault q) ∨ ∃ m, i = .clearFaults m := by
  cases h with
  | tick a => exact .inr (.inl ⟨a, rfl⟩)
  | restoreFault p => exact .inr (.inr (.inl ⟨p, rfl⟩))
  | clearFaults m => exact .inr (.inr (.inr ⟨m, rfl⟩))
  | core i p t runs step => exact .inl ⟨p, runs.coreEvent⟩
  | _ => exact absurd (by simp [allPorts]) hne

theorem EventEffect.faultTime_written {s t : State} {i : Instr} (h : EventEffect s i t)
    (hne : t.faultTime ≠ s.faultTime) : (∃ q, CoreEvent i q) ∨ (∃ a, i = .tick a) ∨ ∃ q, i = .restoreFault q := by
  cases h with
  | tick a => exact .inr (.inl ⟨a, rfl⟩)
  | restoreFault p => exact .inr (.inr ⟨p, rfl⟩)
  | core i p t runs step => exact .inl ⟨p, runs.coreEvent⟩
  | _ => exact absurd (by simp [allPorts]) hne

theorem EventEffect.irqMasked_written {s t : State} {i : Instr} (h : EventEffect s i t)
    (hne : t.irqMasked ≠ s.irqMasked) : i = .openHub ∨ i = .irqMask ∨ i = .irqUnmask := by
  cases h with
  | openHub => exact .inl rfl
  | irqMask => exact .inr (.inl rfl)
  | irqUnmask => exact .inr (.inr rfl)
  | core i p t runs step => exact absurd (coreFrame_of_coreStep step).irqMasked hne
  | _ => exact absurd (by simp [allPorts]) hne

/-- MON_CONFIG keeps the enable bit (46_monitor.md R201). -/
theorem configured_monEnabled {m m' : Monitor} {md : MonMode} (h : m' = m ∨ m' = { m.clear with monMode := md }) :
    m'.monEnabled = m.monEnabled := by
  obtain rfl | rfl := h <;> rfl

theorem EventEffect.monEnabled_written {s t : State} {i : Instr} (h : EventEffect s i t)
    (hne : t.mon.monEnabled ≠ s.mon.monEnabled) : ∃ en, i = .monEnable en := by
  cases h with
  | monEnable => exact ⟨true, rfl⟩
  | monDisable => exact ⟨false, rfl⟩
  | monConfig k rolling mirror md m hm => exact absurd (configured_monEnabled hm) hne
  | core i p t runs step => exact absurd (coreFrame_of_coreStep step).mon.captures.enabled hne
  | _ => exact absurd (by simp [allPorts]) hne

theorem EventEffect.monSettings_written {s t : State} {i : Instr} (h : EventEffect s i t)
    (hne : (t.mon.monMode, t.mon.monRolling, t.mon.monMirror) ≠ (s.mon.monMode, s.mon.monRolling, s.mon.monMirror)) :
    ∃ k rolling mirror, i = .monConfig k rolling mirror := by
  cases h with
  | monEnable => exact absurd rfl hne
  | monDisable => exact absurd rfl hne
  | monConfig k rolling mirror md m hm => exact ⟨k, rolling, mirror, rfl⟩
  | core i p t runs step =>
    have kept := (coreFrame_of_coreStep step).mon.captures
    exact absurd (by rw [kept.mode, kept.rolling, kept.mirror]) hne
  | _ => exact absurd (by simp [allPorts]) hne

theorem EventEffect.monDirs_written {s t : State} {i : Instr} (h : EventEffect s i t) (hne : t.mon.dirs ≠ s.mon.dirs) :
    (∃ en, i = .monEnable en) ∨ (∃ k rolling mirror, i = .monConfig k rolling mirror) ∨
      s.mon.monEnabled = true ∧ ∃ q, CoreEvent i q := by
  cases h with
  | monEnable => exact .inl ⟨true, rfl⟩
  | monDisable => exact .inl ⟨false, rfl⟩
  | monConfig k rolling mirror md m hm => exact .inr (.inl ⟨k, rolling, mirror, rfl⟩)
  | core i p t runs step =>
    obtain same | ⟨on, -⟩ := (coreFrame_of_coreStep step).mon
    · exact absurd (congrArg Monitor.dirs same) hne
    · exact .inr (.inr ⟨on, p, runs.coreEvent⟩)
  | _ => exact absurd (by simp [allPorts]) hne

/-! ## The parts of a port -/

/-- Where port record `x` differs from port `p`, event `i` is one that writes the part (10_state.md R12 to R22, R29). -/
structure PortWritten (s : State) (i : Instr) (p : Port) (x : PortState) : Prop where
  tx : x.txFifo ≠ s.txFifo p →
    (∃ b, i = .writeByte p b) ∨ i = .lineOut p ∨ i = .resetPort p ∨ (∃ a, i = .tick a) ∨ ∃ q, CoreEvent i q
  rx : x.rxFifo ≠ s.rxFifo p ∨ x.xoffAsserted ≠ (s.port p).xoffAsserted →
    (∃ b, i = .lineIn p b) ∨ i = .readByte p ∨ i = .resetPort p ∨ (∃ a, i = .tick a) ∨ CoreEvent i p ∨
      ∃ q, i = .lineOut q ∧ LoopsInto s q p
  baud : x.baudRateIndex ≠ (s.port p).baudRateIndex → ∃ r, i = .configBaud p r
  dmaTx : x.dmaTxEnabled ≠ (s.port p).dmaTxEnabled → ∃ d en, i = .setDma p d en
  dmaRx : x.dmaRxEnabled ≠ (s.port p).dmaRxEnabled → ∃ d en, i = .setDma p d en
  loop : x.loop ≠ (s.port p).loop → ∃ d en, i = .configLoopback p d en
  xoffDetected : x.xoffDetected ≠ (s.port p).xoffDetected →
    i = .lineXoff p ∨ i = .lineXon p ∨ i = .resetPort p ∨ ∃ a, i = .tick a
  txByteCount : x.txByteCount ≠ (s.port p).txByteCount → i = .lineOut p
  intake : x.rxByteCount ≠ (s.port p).rxByteCount ∨ x.rxOverrun ≠ (s.port p).rxOverrun →
    (∃ b, i = .lineIn p b) ∨ ∃ q, i = .lineOut q ∧ LoopsInto s q p
  sticky : (s.port p).rxOverrun = true → x.rxOverrun = true
  crcErr : x.crcErrCount ≠ (s.port p).crcErrCount → i = .coreRx .ext
  sleep : x.sleepReq ≠ (s.port p).sleepReq → i = .resetPort p ∨ ∃ a, i = .tick a
  asleep : x.sleepReq = true → (s.port p).sleepReq = true
  rxp : x.rxp ≠ s.rxp p → CoreEvent i p ∨ i = .resetPort p ∨ (∃ en, i = .setBypass en) ∨ ∃ a, i = .tick a
  config : ∀ d,
    ((x.tmo.get d).timeoutEnable, (x.tmo.get d).resyncEnabled, (x.tmo.get d).timeoutPeriod) ≠
      ((s.tmo p d).timeoutEnable, (s.tmo p d).resyncEnabled, (s.tmo p d).timeoutPeriod) →
    ∃ f en rs per, i = .configTimeout p f en rs per
  timer : ∀ d, (x.tmo.get d).timer ≠ s.timer p d →
    (∃ f en rs per, i = .configTimeout p f en rs per) ∨ (∃ q, CoreEvent i q) ∨ (∃ q, i = .resetPort q) ∨
      (∃ en, i = .setBypass en) ∨ ∃ a, i = .tick a
  timeouts : ∀ d, (x.tmo.get d).timeoutCount ≠ (s.tmo p d).timeoutCount → ∃ a, i = .tick a
  packets : ∀ d, (x.tmo.get d).packetCount ≠ (s.tmo p d).packetCount → ∃ q, i = .coreRx q

/-- A port that has not changed. -/
theorem portWritten_same (s : State) (i : Instr) (p : Port) : PortWritten s i p (s.port p) where
  tx := absurd rfl
  rx h := h.elim (absurd rfl) (absurd rfl)
  baud := absurd rfl
  dmaTx := absurd rfl
  dmaRx := absurd rfl
  loop := absurd rfl
  xoffDetected := absurd rfl
  txByteCount := absurd rfl
  intake h := h.elim (absurd rfl) (absurd rfl)
  sticky := id
  crcErr := absurd rfl
  sleep := absurd rfl
  asleep := id
  rxp := absurd rfl
  config _ := absurd rfl
  timer _ := absurd rfl
  timeouts _ := absurd rfl
  packets _ := absurd rfl

/-- A byte that arrives on the line of `p` after event `i` has made `u` of the state. -/
theorem PortWritten.lineInject {s u : State} {i : Instr} {p : Port} {b : Byte} (h : PortWritten s i p (u.port p))
    (event : (∃ b, i = .lineIn p b) ∨ ∃ q, i = .lineOut q ∧ LoopsInto s q p) :
    PortWritten s i p ((lineInject u p b).port p) := by
  have rx_event : (∃ b, i = .lineIn p b) ∨ i = .readByte p ∨ i = .resetPort p ∨ (∃ a, i = .tick a) ∨ CoreEvent i p ∨
      ∃ q, i = .lineOut q ∧ LoopsInto s q p :=
    event.imp id fun h => .inr (.inr (.inr (.inr h)))
  rw [port_lineInject]
  split
  · exact h
  · split
    · exact { h with rx := fun _ => rx_event, intake := fun _ => event }
    · exact { h with intake := fun _ => event, sticky := fun _ => rfl }

theorem Ticked.written {s : State} {a : Ack} {p : Port} {x : PortState} (h : Ticked s.prm (s.port p) x) :
    PortWritten s (.tick a) p x where
  tx _ := .inr (.inr (.inr (.inl ⟨a, rfl⟩)))
  rx _ := .inr (.inr (.inr (.inl ⟨a, rfl⟩)))
  baud hne := absurd (by rw [h.rest]) hne
  dmaTx hne := absurd (by rw [h.rest]) hne
  dmaRx hne := absurd (by rw [h.rest]) hne
  loop hne := absurd (by rw [h.rest]) hne
  xoffDetected _ := .inr (.inr (.inr ⟨a, rfl⟩))
  txByteCount hne := absurd (by rw [h.rest]) hne
  intake hne := hne.elim (absurd (by rw [h.rest])) (absurd (by rw [h.rest]))
  sticky on := by rw [h.rest]; exact on
  crcErr hne := absurd (by rw [h.rest]) hne
  sleep _ := .inr ⟨a, rfl⟩
  asleep := h.sleep
  rxp _ := .inr (.inr (.inr ⟨a, rfl⟩))
  config d hne := absurd (by rw [h.tmo d]) hne
  timer _ _ := .inr (.inr (.inr (.inr ⟨a, rfl⟩)))
  timeouts _ _ := ⟨a, rfl⟩
  packets d hne := absurd (by rw [h.tmo d]) hne

theorem Restarted.written {s : State} {en : Bool} {p : Port} {x : PortState} (h : Restarted (s.port p) x) :
    PortWritten s (.setBypass en) p x := by
  have same := portWritten_same s (.setBypass en) p
  rw [h.rest]
  exact { same with
    rxp := fun _ => .inr (.inr (.inl ⟨en, rfl⟩))
    config := fun d hne => absurd (by rw [h.tmo d]) hne
    timer := fun _ _ => .inr (.inr (.inr (.inl ⟨en, rfl⟩)))
    timeouts := fun d hne => absurd (by rw [h.tmo d]) hne
    packets := fun d hne => absurd (by rw [h.tmo d]) hne }

/-- A port reset writes its own port, and the TX timer of the port its frame went to (42_framer.md R132, R133). -/
theorem portWritten_portReset (s : State) (q p : Port) : PortWritten s (.resetPort q) p ((portReset s q).port p) := by
  have same := portWritten_same s (.resetPort q) p
  have timer : ∀ n : Nat, ∀ d, n ≠ s.timer p d → (∃ f en rs per, Instr.resetPort q = .configTimeout p f en rs per) ∨
      (∃ r, CoreEvent (.resetPort q) r) ∨ (∃ r, Instr.resetPort q = .resetPort r) ∨
        (∃ en, Instr.resetPort q = .setBypass en) ∨ ∃ a, Instr.resetPort q = .tick a :=
    fun _ _ _ => .inr (.inr (.inl ⟨q, rfl⟩))
  rw [port_portReset]
  by_cases h : p = q
  · subst h
    exact { same with
      tx := fun _ => .inr (.inr (.inl rfl))
      rx := fun _ => .inr (.inr (.inl rfl))
      xoffDetected := fun _ => .inr (.inr (.inl rfl))
      sleep := fun _ => .inl rfl
      asleep := fun on => by simp at on
      rxp := fun _ => .inr (.inl rfl)
      config := fun d hne => absurd (by cases d <;> rfl) hne
      timer := fun d => timer _ d
      timeouts := fun d hne => absurd (by cases d <;> rfl) hne
      packets := fun d hne => absurd (by cases d <;> rfl) hne }
  · simp only [if_neg h]
    exact { same with
      config := fun d hne => absurd (by cases d <;> rfl) hne
      timer := fun d => timer _ d
      timeouts := fun d hne => absurd (by cases d <;> rfl) hne
      packets := fun d hne => absurd (by cases d <;> rfl) hne }

theorem CorePort.written {s : State} {i : Instr} {q p : Port} {x : PortState} (runs : RunsCore s i q)
    (h : CorePort s q p x) : PortWritten s i p x where
  tx _ := .inr (.inr (.inr (.inr ⟨q, runs.coreEvent⟩)))
  rx hne := by
    obtain ⟨rx, xoff⟩ | ⟨rfl, -, -⟩ := h.rx
    · exact hne.elim (absurd rx) (absurd xoff)
    · exact .inr (.inr (.inr (.inr (.inl runs.coreEvent))))
  baud hne := absurd (by rw [h.rest]) hne
  dmaTx hne := absurd (by rw [h.rest]) hne
  dmaRx hne := absurd (by rw [h.rest]) hne
  loop hne := absurd (by rw [h.rest]) hne
  xoffDetected hne := absurd (by rw [h.rest]) hne
  txByteCount hne := absurd (by rw [h.rest]) hne
  intake hne := hne.elim (absurd (by rw [h.rest])) (absurd (by rw [h.rest]))
  sticky on := by rw [h.rest]; exact on
  crcErr hne := by
    obtain same | ⟨rfl, phase, -, -⟩ := h.crcErr
    · exact absurd same hne
    · exact runs.eq_coreRx (by simp [phase])
  sleep hne := absurd (by rw [h.rest]) hne
  asleep on := by rw [h.rest] at on; exact on
  rxp hne := by
    by_cases hp : p = q
    · subst hp; exact .inl runs.coreEvent
    · exact absurd (h.rxp hp) hne
  config d hne := absurd (by rw [h.tmo d]) hne
  timer _ _ := .inr (.inl ⟨q, runs.coreEvent⟩)
  timeouts d hne := absurd (by rw [h.tmo d]) hne
  packets d hne := by
    obtain same | ⟨phase, -⟩ := h.packets d
    · exact absurd same hne
    · exact ⟨q, runs.eq_coreRx phase⟩

theorem portWritten_transmit (s : State) (q p : Port) : PortWritten s (.lineOut q) p ((transmit s q).port p) := by
  have same := portWritten_same s (.lineOut q) p
  rw [port_transmit]
  split
  next h =>
    subst h
    exact { same with tx := fun _ => .inr (.inl rfl), txByteCount := fun _ => rfl }
  next => exact same

/-- Every change of a port names its event. -/
theorem PortEffect.portWritten {s : State} {i : Instr} {p : Port} {x : PortState} (h : PortEffect s i p x) :
    PortWritten s i p x := by
  have same := portWritten_same s i p
  cases h with
  | same => exact same
  | baud n k event => exact { same with baud := fun _ => ⟨n, event⟩ }
  | dma d en tx rx event => exact { same with dmaTx := fun _ => ⟨d, en, event⟩, dmaRx := fun _ => ⟨d, en, event⟩ }
  | loop d en w event => exact { same with loop := fun _ => ⟨d, en, event⟩ }
  | timeout f en rs per hper event =>
    have counts := configuredTmo_counts (s.port p).tmo f en rs per.toNat
    exact { same with
      config := fun _ _ => ⟨f, en, rs, per, event⟩
      timer := fun _ _ => .inl ⟨f, en, rs, per, event⟩
      timeouts := fun d hne => absurd (counts d).1 hne
      packets := fun d hne => absurd (counts d).2 hne }
  | parsers en event x restarted => subst event; exact restarted.written
  | reset q event => subst event; exact portWritten_portReset s q p
  | written b room event => exact { same with tx := fun _ => .inl ⟨b, event⟩ }
  | read event => exact { same with rx := fun _ => .inr (.inl event) }
  | received b event => exact same.lineInject (.inl ⟨b, event⟩)
  | sent event => subst event; exact portWritten_transmit s p p
  | looped q b event loops =>
    subst event
    exact (portWritten_transmit s q p).lineInject (.inr ⟨q, rfl, loops⟩)
  | flow b event => exact { same with xoffDetected := fun _ => event.imp id .inl }
  | ticked a event x ticked => subst event; exact ticked.written
  | core q runs x moved => exact moved.written runs

/-- Settles O15: clause by clause from the effect of the event, on the hub and on each port. -/
theorem eachPartIsWrittenByItsEventsOnly : Obligations.EachPartIsWrittenByItsEventsOnly := by
  intro i s t e
  obtain ⟨u, r, h, rfl⟩ := exec_hasEffect e
  refine ⟨h.prm_schedule.1, h.prm_schedule.2, h.pg_written, h.opened_written, h.trxReq_written, h.bypassMode_written,
    h.extOwner_written, fun hne => (h.now.resolve_left hne).1, fun hne => (h.xoffPollCount.resolve_left hne).1,
    h.faultBitmap_written, h.faultTime_written, h.irqMasked_written, h.monEnabled_written, h.monSettings_written,
    h.monDirs_written, fun p => ?_⟩
  have w := (h.portEffect p).portWritten
  exact ⟨w.tx, w.rx, w.baud, w.dmaTx, w.dmaRx, w.loop, w.xoffDetected, w.txByteCount, w.intake, w.sticky, w.crcErr,
    w.sleep, w.asleep, w.rxp, fun d => ⟨w.config d, w.timer d, w.timeouts d, w.packets d⟩⟩

end Sys2Proof.Machine
end

section
/-!
PROOF. The causes of the fault bits (60_exceptions.md R215, R216): what sets a bit, what clears one, and that a timeout
raised anywhere within a tick was due when the tick began (43_timeout.md R148).
-/

namespace Sys2Proof.Machine

/-! ## Single bits of the bitmap -/

theorem portNum_lt (p : Port) : portNum p < 4 := by cases p <;> decide

theorem portNum_inj {p q : Port} : portNum p = portNum q ↔ p = q := by
  cases p <;> cases q <;> simp [portNum]

theorem faultKindNum_lt (k : FaultKind) : faultKindNum k < 4 := by cases k <;> decide

theorem faultKindNum_inj {k k' : FaultKind} : faultKindNum k = faultKindNum k' ↔ k = k' := by
  cases k <;> cases k' <;> simp [faultKindNum]

theorem faultBit_lt (k : FaultKind) (p : Port) : faultBit k p < 16 := by
  have := portNum_lt p
  have := faultKindNum_lt k
  unfold faultBit
  omega

/-- Each kind and port has a bit of its own (60_exceptions.md R215). -/
theorem faultBit_inj {k k' : FaultKind} {p q : Port} : faultBit k p = faultBit k' q ↔ k = k' ∧ p = q := by
  have hp := portNum_lt p
  have hq := portNum_lt q
  rw [← faultKindNum_inj, ← portNum_inj]
  unfold faultBit
  omega

/-- Raising a fault sets its bit and no other. -/
theorem getLsbD_raise (v : Word16) (k k' : FaultKind) (p q : Port) :
    (v ||| (1 <<< faultBit k p)).getLsbD (faultBit k' q) = true ↔
      v.getLsbD (faultBit k' q) = true ∨ (k = k' ∧ p = q) := by
  have hq := faultBit_lt k' q
  have shifted :
      ((1 <<< faultBit k p : Nat) : Word16).getLsbD (faultBit k' q) = true ↔ faultBit k p = faultBit k' q := by
    rw [BitVec.natCast_eq_ofNat, BitVec.getLsbD_ofNat, Nat.one_shiftLeft, Nat.testBit_two_pow]
    simp [hq]
  rw [BitVec.getLsbD_or, Bool.or_eq_true, shifted, faultBit_inj]

/-- Bits that are set stay set: what every event but CLEAR_FAULTS does to the bitmap. -/
def KeepsBits (s t : State) : Prop := ∀ n, s.faultBitmap.getLsbD n = true → t.faultBitmap.getLsbD n = true

theorem KeepsBits.of_eq {s t : State} (h : t.faultBitmap = s.faultBitmap) : KeepsBits s t :=
  fun n hn => by rw [h]; exact hn

theorem KeepsBits.of_or {s t : State} {v : Word16} (h : t.faultBitmap = s.faultBitmap ||| v) : KeepsBits s t :=
  fun n hn => by rw [h, BitVec.getLsbD_or, hn, Bool.true_or]

theorem KeepsBits.trans {s t u : State} (h : KeepsBits s t) (h' : KeepsBits t u) : KeepsBits s u :=
  fun n hn => h' n (h n hn)

theorem keepsBits_superviseOne (s : State) (p : Port) (d : Dir) : KeepsBits s (superviseOne s p d) := by
  obtain ⟨-, h⟩ | ⟨-, -, -, h⟩ | ⟨-, h⟩ := superviseOne_cases s p d <;> rw [h]
  · exact .of_or (expire_faultBitmap s p d)
  · exact .of_eq rfl
  · exact .of_eq rfl

theorem keepsBits_supervise (s : State) : KeepsBits s (supervise s) :=
  foldl_rel (R := KeepsBits) (fun s => .of_eq (t := s) rfl) KeepsBits.trans
    (fun s p => (keepsBits_superviseOne s p .rx).trans (keepsBits_superviseOne _ p .tx)) allPorts s

theorem keepsBits_tickState (s : State) (a : Ack) : KeepsBits s (tickState s a) := by
  obtain h | h := tickState_cases s a <;> rw [h]
  · exact .of_eq rfl
  · exact (keepsBits_supervise (tickGate s a)).trans (.of_eq (xoffPoll_faultBitmap _))

theorem CoreCase.keepsBits {s t : State} {p : Port} (h : CoreCase s p t) : KeepsBits s t := by
  cases h with
  | undefined d b at_hand cls room owner bitmap time ports => exact .of_or bitmap
  | trailerMismatch t0 t1 ext phase trailer at_hand differ owner bitmap time ports => exact .of_or bitmap
  | _ => exact .of_eq (‹SameFaults s t›).1

/-- A fault bit is cleared only by a CLEAR_FAULTS that names it (60_exceptions.md R227). -/
theorem EventEffect.bit_cleared {s t : State} {i : Instr} {n : Nat} (h : EventEffect s i t)
    (on : s.faultBitmap.getLsbD n = true) (off : t.faultBitmap.getLsbD n = false) :
    ∃ m, i = .clearFaults m ∧ m.getLsbD n = true := by
  have contra : ¬ KeepsBits s t := fun kept => by rw [kept n on] at off; cases off
  cases h with
  | clearFaults m =>
    refine ⟨m, rfl, ?_⟩
    have lt := BitVec.lt_of_getLsbD on
    rw [ackFaults_faultBitmap, BitVec.getLsbD_and, on, BitVec.getLsbD_not] at off
    simpa [lt] using off
  | tick a => exact absurd (keepsBits_tickState s a) contra
  | restoreFault p => exact absurd (.of_or (raiseFault_faultBitmap s _ p)) contra
  | core i p t runs step => exact absurd (coreCase_of_coreStep step).keepsBits contra
  | _ => exact absurd (.of_eq (by simp [allPorts])) contra

/-! ## Timeouts within a tick -/

/-- From `s` to `t` no transfer begins: what runs in `t` ran in `s` (43_timeout.md R147). -/
structure NoneStarted (s t : State) : Prop where
  bypassMode : t.bypassMode = s.bypassMode
  owner : t.extOwner.isSome = true → s.extOwner.isSome = true
  rxp : ∀ q, (t.rxp q).phase = .boundary ∨ t.rxp q = s.rxp q

theorem NoneStarted.running {s t : State} (h : NoneStarted s t) (p : Port) (d : Dir) (run : t.running p d = true) :
    s.running p d = true := by
  have delivering : Delivering (t.rxp .ext) → Delivering (s.rxp .ext) ∧ (t.rxp .ext).dest = (s.rxp .ext).dest := by
    intro del
    obtain hb | same := h.rxp .ext
    · rw [Delivering, hb] at del; simp at del
    · rw [← same]; exact ⟨del, rfl⟩
  cases d with
  | rx =>
    simp only [State.running, State.rxRunning, Bool.and_eq_true, decide_eq_true_eq, h.bypassMode] at run ⊢
    obtain hb | same := h.rxp p
    · exact absurd hb run.2
    · rw [← same]; exact run
  | tx =>
    simp only [State.running, State.txRunning, Bool.and_eq_true, h.bypassMode] at run ⊢
    refine ⟨run.1, ?_⟩
    obtain rfl | ⟨g, rfl⟩ := ext_or_hostPort p
    · exact h.owner run.2
    · have := run.2
      cases g <;> simp only [hostPort, decide_eq_true_eq] at this ⊢ <;>
        exact ⟨(delivering this.1).1, (delivering this.1).2 ▸ this.2⟩

theorem NoneStarted.of_eq {s t : State} (hb : t.bypassMode = s.bypassMode) (ho : t.extOwner = s.extOwner)
    (hr : ∀ q, t.rxp q = s.rxp q) : NoneStarted s t := ⟨hb, fun h => ho ▸ h, fun q => .inr (hr q)⟩

theorem NoneStarted.trans {s t u : State} (h : NoneStarted s t) (h' : NoneStarted t u) : NoneStarted s u := by
  refine ⟨h'.bypassMode.trans h.bypassMode, fun o => h.owner (h'.owner o), fun q => ?_⟩
  obtain hb | same := h'.rxp q
  · exact .inl hb
  · rw [same]; exact h.rxp q

theorem noneStarted_parserReset (s : State) (r : Port) : NoneStarted s (parserReset s r) := by
  refine ⟨parserReset_bypassMode s r, fun o => ?_, fun q => ?_⟩
  · rw [parserReset_extOwner] at o
    split at o
    · cases o
    · exact o
  · simp only [State.rxp, port_parserReset]
    split
    · exact .inl rfl
    · exact .inr rfl

/-- A due timer of `t` was due in `s`: nothing has begun, and its timer has not advanced. -/
theorem Firing.of_noneStarted {s t : State} {p : Port} {d : Dir} (h : NoneStarted s t) (ht : PortsTicked s t)
    (timer : t.timer p d ≤ s.timer p d) (firing : Firing t p d) : Firing s p d := by
  obtain ⟨run, enabled, due⟩ := firing
  have kept := (ht.2 p).tmo d
  have enable_eq : (t.tmo p d).timeoutEnable = (s.tmo p d).timeoutEnable := by
    rw [State.tmo, kept]
  have period_eq : (t.tmo p d).timeoutPeriod = (s.tmo p d).timeoutPeriod := by
    rw [State.tmo, kept]
  exact ⟨h.running p d run, enable_eq ▸ enabled, by omega⟩

theorem timer_setTmo_ne (s : State) {p q : Port} {d e : Dir} (x : TimeoutRec) (h : ¬ (q = p ∧ e = d)) :
    (s.setTmo p d x).timer q e = s.timer q e := by
  rw [State.timer, State.tmo, port_setTmo_eq]
  dsimp only
  split
  next hq =>
    subst hq
    rw [PerDir.get_set, if_neg fun he => h ⟨rfl, he⟩]
  next => rfl

theorem timer_parserReset_le (s : State) (r q : Port) (e : Dir) : (parserReset s r).timer q e ≤ s.timer q e := by
  rw [State.timer, State.tmo, port_parserReset]
  cases e with
  | rx =>
    show (if q = r then 0 else s.timer q .rx) ≤ _
    split
    · exact Nat.zero_le _
    · exact Nat.le_refl _
  | tx =>
    show (if _ then 0 else s.timer q .tx) ≤ _
    split
    · exact Nat.zero_le _
    · exact Nat.le_refl _

/-- An expiry starts nothing and advances no other timer. -/
theorem expire_quiets (s : State) (p : Port) (d : Dir) :
    NoneStarted s (expire s p d) ∧ ∀ q e, ¬ (q = p ∧ e = d) → (expire s p d).timer q e ≤ s.timer q e := by
  have quiet : NoneStarted s (counted s p d) := .of_eq rfl rfl fun q => by simp [counted, State.rxp]
  have timer : ∀ q e, ¬ (q = p ∧ e = d) → (counted s p d).timer q e = s.timer q e := fun q e h =>
    (timer_setTmo_ne (s.setTimer p d 0) _ h).trans (timer_setTmo_ne s _ h)
  rw [expire_eq]
  split
  · obtain ⟨h, -⟩ | ⟨r, h, -⟩ := resync_cases (counted s p d) p d <;> rw [h]
    · exact ⟨quiet, fun q e h => (timer q e h).le⟩
    · exact ⟨quiet.trans (noneStarted_parserReset _ r),
        fun q e h => (timer_parserReset_le _ r q e).trans (timer q e h).le⟩
  · exact ⟨quiet, fun q e h => (timer q e h).le⟩

/-- One iteration of the supervisor makes no other timer due. -/
theorem Firing.of_superviseOne {s : State} {p q : Port} {d e : Dir} (h : ¬ (q = p ∧ e = d))
    (firing : Firing (superviseOne s p d) q e) : Firing s q e := by
  have ticked := portsTicked_superviseOne s p d
  obtain ⟨-, heq⟩ | ⟨-, -, -, heq⟩ | ⟨-, heq⟩ := superviseOne_cases s p d <;> rw [heq] at firing ticked
  · obtain ⟨quiet, timer⟩ := expire_quiets s p d
    exact firing.of_noneStarted quiet ticked (timer q e h)
  · have quiet : NoneStarted s (s.setTimer p d (s.timer p d + 1)) := .of_eq rfl rfl fun q => by simp [State.rxp]
    exact firing.of_noneStarted quiet ticked (timer_setTmo_ne s _ h).le
  · exact firing

/-- The fault bits after one iteration of the supervisor (43_timeout.md R148). -/
theorem superviseOne_bit {s : State} {p q : Port} {d : Dir} {k : FaultKind}
    (on : (superviseOne s p d).faultBitmap.getLsbD (faultBit k q) = true) :
    s.faultBitmap.getLsbD (faultBit k q) = true ∨ (k = .timeoutError ∧ q = p ∧ Firing s p d) := by
  obtain ⟨firing, heq⟩ | ⟨-, -, -, heq⟩ | ⟨-, heq⟩ := superviseOne_cases s p d <;> rw [heq] at on
  · rw [expire_faultBitmap, getLsbD_raise] at on
    exact on.imp id fun ⟨hk, hp⟩ => ⟨hk.symm, hp.symm, firing⟩
  · exact .inl on
  · exact .inl on

theorem supervisePort_bit {s : State} {p q : Port} {k : FaultKind}
    (on : (supervisePort s p).faultBitmap.getLsbD (faultBit k q) = true) :
    s.faultBitmap.getLsbD (faultBit k q) = true ∨ (k = .timeoutError ∧ q = p ∧ ∃ d, Firing s p d) := by
  obtain on | ⟨hk, hq, firing⟩ := superviseOne_bit on
  · exact (superviseOne_bit on).imp id fun ⟨hk, hq, firing⟩ => ⟨hk, hq, .rx, firing⟩
  · exact .inr ⟨hk, hq, .tx, firing.of_superviseOne (by simp)⟩

/-- The fault bits after the iterations of the ports `l`, each once. -/
theorem foldl_supervisePort_bit {k : FaultKind} {q : Port} {l : List Port} (nodup : l.Nodup) :
    ∀ s : State, (l.foldl supervisePort s).faultBitmap.getLsbD (faultBit k q) = true →
      s.faultBitmap.getLsbD (faultBit k q) = true ∨ (k = .timeoutError ∧ q ∈ l ∧ ∃ d, Firing s q d) := by
  induction l with
  | nil => exact fun s on => .inl on
  | cons p l ih =>
    intro s on
    obtain ⟨fresh, nodup⟩ := List.nodup_cons.mp nodup
    obtain on | ⟨hk, hq, d, firing⟩ := ih nodup (supervisePort s p) on
    · exact (supervisePort_bit on).imp id fun ⟨hk, hq, firing⟩ => ⟨hk, hq ▸ List.mem_cons_self, hq ▸ firing⟩
    · have other : q ≠ p := fun h => fresh (h ▸ hq)
      exact .inr ⟨hk, List.mem_cons_of_mem _ hq, d,
        (firing.of_superviseOne fun h => other h.1).of_superviseOne fun h => other h.1⟩

/-- A bit set by a tick is a timeout's that was due when the tick began. -/
theorem tickState_bit {s : State} {a : Ack} {k : FaultKind} {q : Port}
    (on : (tickState s a).faultBitmap.getLsbD (faultBit k q) = true) :
    s.faultBitmap.getLsbD (faultBit k q) = true ∨ (k = .timeoutError ∧ ∃ d, Firing s q d) := by
  obtain h | h := tickState_cases s a <;> rw [h] at on
  · exact .inl on
  · rw [xoffPoll_faultBitmap] at on
    exact (foldl_supervisePort_bit (by decide) (tickGate s a) on).imp id fun ⟨hk, _, d, firing⟩ => ⟨hk, d, firing⟩

/-! ## The causes -/

theorem eq_of_atByte {s : State} {p : Port} {b c : Byte} (h : AtByte s p b) (h' : AtByte s p c) : b = c := by
  have := h.head.symm.trans h'.head
  simpa using this

/-- A bit set by a step of the hub core is a PacketTypeError of its source or a CRCError of the addressee of External's
frame (60_exceptions.md R216). -/
theorem CoreCase.bit_raised {s t : State} {p q : Port} {k : FaultKind} (h : CoreCase s p t)
    (off : s.faultBitmap.getLsbD (faultBit k q) = false) (on : t.faultBitmap.getLsbD (faultBit k q) = true) :
    t.faultTime = s.now ∧
      ((k = .packetTypeError ∧ q = p ∧ ∃ b, AtFirstByte s p b ∧ classify s.prm.typeMap p b = .undefined) ∨
        (k = .crcError ∧ p = .ext ∧ (s.rxp .ext).phase = .crc ∧ (s.rxp .ext).dest = q ∧
          ∃ t0 t1, (s.rxp .ext).trailer = [t0] ∧ AtByte s .ext t1 ∧ t1 ++ t0 ≠ (s.rxp .ext).crc)) := by
  cases h with
  | undefined d b at_hand cls room owner bitmap time ports =>
    rw [bitmap, getLsbD_raise, off] at on
    obtain ⟨hk, hp⟩ := on.resolve_left (by simp)
    exact ⟨time, .inl ⟨hk.symm, hp.symm, b, at_hand, cls⟩⟩
  | trailerMismatch t0 t1 ext phase trailer at_hand differ owner bitmap time ports =>
    rw [bitmap, getLsbD_raise, off] at on
    obtain ⟨hk, hp⟩ := on.resolve_left (by simp)
    subst ext
    exact ⟨time, .inr ⟨hk.symm, rfl, phase, hp, t0, t1, trailer, at_hand, differ⟩⟩
  | _ =>
    rw [(‹SameFaults s t›).1, off] at on
    cases on

/-- The event that runs the hub core on an undefined first byte (30_encoding.md R64, R65). -/
theorem RunsCore.undefined {s : State} {i : Instr} {p : Port} {b : Byte} (h : RunsCore s i p)
    (at_hand : AtFirstByte s p b) (cls : classify s.prm.typeMap p b = .undefined) :
    (i = .coreRx p ∨ i = .undefinedFromExt b ∨ ∃ h, i = .undefinedFromHost h b) ∧
      (decodeFirstByte s.prm.typeMap p b = .undefinedFromExt b ∨
        ∃ h, decodeFirstByte s.prm.typeMap p b = .undefinedFromHost h b) := by
  have named := classify_standsFor s.prm.typeMap p b
  rw [cls] at named
  have decoded : decodeFirstByte s.prm.typeMap p b = .undefinedFromExt b ∨
      ∃ h, decodeFirstByte s.prm.typeMap p b = .undefinedFromHost h b :=
    named.imp (fun h => h.2) fun ⟨g, _, h⟩ => ⟨g, h⟩
  refine ⟨?_, decoded⟩
  obtain rfl | ⟨c, -, at_hand', rfl⟩ := h
  · exact .inl rfl
  · rw [← eq_of_atByte at_hand.toAtByte at_hand'.toAtByte]
    exact .inr decoded

/-- The cause of fault `k` on port `p` in event `i` (60_exceptions.md R216). -/
def FaultCause (s : State) (i : Instr) (p : Port) : FaultKind → Prop
  | .crcError =>
    i = .coreRx .ext ∧ (s.rxp .ext).phase = .crc ∧ (s.rxp .ext).dest = p ∧
      ∃ t0 t1, (s.rxp .ext).trailer = [t0] ∧ AtByte s .ext t1 ∧ t1 ++ t0 ≠ (s.rxp .ext).crc
  | .packetTypeError =>
    ∃ b, AtFirstByte s p b ∧
      (i = .coreRx p ∨ i = .undefinedFromExt b ∨ ∃ h, i = .undefinedFromHost h b) ∧
      (decodeFirstByte s.prm.typeMap p b = .undefinedFromExt b ∨
        ∃ h, decodeFirstByte s.prm.typeMap p b = .undefinedFromHost h b)
  | .timeoutError => (∃ a, i = .tick a) ∧ ∃ d, Firing s p d
  | .restoreError => i = .restoreFault p

/-- A fault bit is set only by its cause: a tick, a step of the hub core and RESTORE_FAULT raise, the other events
keep the bitmap or clear bits. -/
theorem EventEffect.bit_raised {s t : State} {i : Instr} {k : FaultKind} {p : Port} (h : EventEffect s i t)
    (off : s.faultBitmap.getLsbD (faultBit k p) = false) (on : t.faultBitmap.getLsbD (faultBit k p) = true) :
    t.faultTime = t.now ∧ FaultCause s i p k := by
  have contra : t.faultBitmap = s.faultBitmap → False := fun same => by rw [same, off] at on; cases on
  cases h with
  | tick a =>
    obtain was | ⟨rfl, firing⟩ := tickState_bit on
    · rw [off] at was; cases was
    · obtain ⟨now, same | raised⟩ := raisedNow_tickState s a
      · exact absurd same.1 contra
      · exact ⟨raised.trans now.symm, ⟨a, rfl⟩, firing⟩
  | restoreFault q =>
    obtain was | ⟨rfl, rfl⟩ := (getLsbD_raise s.faultBitmap .restoreError k q p).mp on
    · rw [off] at was; cases was
    · exact ⟨rfl, rfl⟩
  | core i q u runs step =>
    obtain ⟨time, ⟨rfl, rfl, b, at_hand, cls⟩ | ⟨rfl, rfl, phase, dest, t0, t1, trailer, at_hand, differ⟩⟩ :=
      (coreCase_of_coreStep step).bit_raised off on
    · exact ⟨time.trans (coreFrame_of_coreStep step).now.symm, b, at_hand, runs.undefined at_hand cls⟩
    · exact ⟨time.trans (coreFrame_of_coreStep step).now.symm, runs.eq_coreRx (by simp [phase]), phase, dest, t0, t1,
        trailer, at_hand, differ⟩
  | clearFaults m =>
    rw [ackFaults_faultBitmap, BitVec.getLsbD_and, off] at on
    cases on
  | _ => exact absurd (by simp [allPorts]) contra

/-- Settles O37: a cleared bit by `EventEffect.bit_cleared`, a set one by `EventEffect.bit_raised`. -/
theorem faultBitsHaveTheirCausesOnly : Obligations.FaultBitsHaveTheirCausesOnly := by
  intro i s t k p e
  obtain ⟨u, r, h, rfl⟩ := exec_hasEffect e
  refine ⟨fun on off => h.bit_cleared on off, fun off on => ?_⟩
  obtain ⟨time, cause⟩ := h.bit_raised off on
  refine ⟨time, ?_⟩
  cases k <;> exact cause

end Sys2Proof.Machine
end

section
/-!
PROOF. The framing invariant (10_state.md R22, R29, 42_framer.md R120, 43_timeout.md R147): its parts for parsers,
owner and timers over the resets, the supervisor and the rules of the hub core.
-/

namespace Sys2Proof.Machine

/-! ## The parser of one port -/

/-- The condition of `ParserInv` on a parser `r` of port `p`. -/
structure ParserOk (c : Params) (bypass : Bool) (p : Port) (r : Parser) : Prop where
  boundary : r.phase = .boundary → r.hdr = [] ∧ r.trailer = [] ∧ r.remain = 0 ∧ r.crc = 0xFFFF
  header : r.phase = .header →
    1 ≤ r.hdr.length ∧ r.hdr.length < hdrLen r.shape ∧ r.trailer = [] ∧ r.remain = 0 ∧ r.crc = 0xFFFF
  payload : r.phase = .payload → r.hdr = [] ∧ r.trailer = [] ∧ 1 ≤ r.remain ∧ r.remain ≤ 65535
  crc : r.phase = .crc → r.hdr = [] ∧ r.remain = 0 ∧ r.trailer.length ≤ 1 ∧ (p ≠ .ext → r.trailer = []) ∧
    (p = .ext → c.extRxCrc = true)
  dest : r.phase ≠ .boundary → (r.dest = .ext ↔ p ≠ .ext)
  bypassed : bypass = true → r.phase = .boundary

theorem parserInv_iff (s : State) (p : Port) : ParserInv s p ↔ ParserOk s.prm s.bypassMode p (s.rxp p) :=
  ⟨fun ⟨boundary, header, payload, crc, dest, bypassed⟩ => ⟨boundary, header, payload, crc, dest, bypassed⟩,
    fun h => ⟨h.boundary, h.header, h.payload, h.crc, h.dest, h.bypassed⟩⟩

theorem parserOk_atBoundary (c : Params) (bypass : Bool) (p : Port) (r : Parser) : ParserOk c bypass p r.atBoundary :=
  ⟨fun _ => ⟨rfl, rfl, rfl, rfl⟩, nofun, nofun, nofun, fun h => absurd rfl h, fun _ => rfl⟩

theorem ParserOk.of_header {c : Params} {p : Port} {r : Parser} (phase : r.phase = .header)
    (header : 1 ≤ r.hdr.length ∧ r.hdr.length < hdrLen r.shape ∧ r.trailer = [] ∧ r.remain = 0 ∧ r.crc = 0xFFFF)
    (dest : r.dest = .ext ↔ p ≠ .ext) : ParserOk c false p r :=
  ⟨by simp [phase], fun _ => header, by simp [phase], by simp [phase], fun _ => dest, nofun⟩

theorem ParserOk.of_payload {c : Params} {p : Port} {r : Parser} (phase : r.phase = .payload)
    (payload : r.hdr = [] ∧ r.trailer = [] ∧ 1 ≤ r.remain ∧ r.remain ≤ 65535)
    (dest : r.dest = .ext ↔ p ≠ .ext) : ParserOk c false p r :=
  ⟨by simp [phase], by simp [phase], fun _ => payload, by simp [phase], fun _ => dest, nofun⟩

theorem ParserOk.of_crc {c : Params} {p : Port} {r : Parser} (phase : r.phase = .crc)
    (crc : r.hdr = [] ∧ r.remain = 0 ∧ r.trailer.length ≤ 1 ∧ (p ≠ .ext → r.trailer = []) ∧
      (p = .ext → c.extRxCrc = true))
    (dest : r.dest = .ext ↔ p ≠ .ext) : ParserOk c false p r :=
  ⟨by simp [phase], by simp [phase], by simp [phase], fun _ => crc, fun _ => dest, nofun⟩

/-- Off a boundary the hub is not in bypass (42_framer.md R130). -/
theorem ParserOk.framed {c : Params} {bypass : Bool} {p : Port} {r : Parser} (h : ParserOk c bypass p r)
    (phase : r.phase ≠ .boundary) : bypass = false := by
  cases bypass with
  | false => rfl
  | true => exact absurd (h.bypassed rfl) phase

/-- A header encodes a length of at most 16 bits (30_encoding.md R62). -/
theorem payloadLength_le (sh : Shape) (hdr : List Byte) : payloadLength sh hdr ≤ 65535 := by
  have := (byteAt hdr 2).isLt
  have := (byteAt hdr 3).isLt
  have := (byteAt hdr 4).isLt
  cases sh <;> simp only [payloadLength] <;> omega

/-! ## The framing part of a state -/

/-- `FrameInv` without its part on faults and sleep requests. -/
structure Framed (s : State) : Prop where
  parser : ∀ p, ParserOk s.prm s.bypassMode p (s.rxp p)
  owner : OwnerInv s
  timer : TimerInv s

theorem frameInv_iff (s : State) : FrameInv s ↔ Framed s ∧ AddresseeInv s :=
  ⟨fun ⟨parser, owner, timer, addressee⟩ => ⟨⟨fun p => (parserInv_iff s p).mp (parser p), owner, timer⟩, addressee⟩,
    fun ⟨h, addressee⟩ => ⟨fun p => (parserInv_iff s p).mpr (h.parser p), h.owner, h.timer, addressee⟩⟩

/-- `t` has the parsers, the owner, the timers and the periods of `s`. -/
structure SameFraming (s t : State) : Prop where
  prm : t.prm = s.prm
  bypassMode : t.bypassMode = s.bypassMode
  owner : t.extOwner = s.extOwner
  rxp : ∀ p, t.rxp p = s.rxp p
  timer : ∀ p d, t.timer p d = s.timer p d
  period : ∀ p d, (t.tmo p d).timeoutPeriod = (s.tmo p d).timeoutPeriod

/-- What a reset or a step may do to the timers: stop one, or leave it to what still runs. -/
theorem TimerInv.of_kept {s t : State} (h : TimerInv s)
    (period : ∀ p d, (t.tmo p d).timeoutPeriod = (s.tmo p d).timeoutPeriod)
    (timer : ∀ p d, t.timer p d = 0 ∨
      (t.timer p d = s.timer p d ∧ (s.running p d = true → t.running p d = true))) : TimerInv t := by
  intro p d
  obtain ⟨stopped, below, le⟩ := h p d
  rw [period p d]
  obtain zero | ⟨same, runs⟩ := timer p d
  · rw [zero]
    exact ⟨fun _ => rfl, by omega, le⟩
  · rw [same]
    refine ⟨fun off => stopped ?_, below, le⟩
    cases on : s.running p d with
    | false => rfl
    | true => rw [runs on] at off; cases off

/-- What runs is read from the mode, the parsers and the owner (43_timeout.md R147). -/
theorem running_congr {s t : State} (hb : t.bypassMode = s.bypassMode) (ho : t.extOwner = s.extOwner)
    (hr : ∀ p, t.rxp p = s.rxp p) (p : Port) (d : Dir) : t.running p d = s.running p d := by
  cases d <;> simp only [State.running, State.rxRunning, State.txRunning, hb, ho, hr]

theorem SameFraming.framed {s t : State} (h : SameFraming s t) (hs : Framed s) : Framed t where
  parser p := by rw [h.prm, h.bypassMode, h.rxp]; exact hs.parser p
  owner g := by rw [h.owner, h.rxp]; exact hs.owner g
  timer := hs.timer.of_kept h.period fun p d =>
    .inr ⟨h.timer p d, fun on => (running_congr h.bypassMode h.owner h.rxp p d).trans on⟩

/-- Timers of the RX side run with the parser. -/
theorem running_rx (s : State) (p : Port) :
    s.running p .rx = true ↔ s.bypassMode = false ∧ (s.rxp p).phase ≠ .boundary := by
  simp [State.running, State.rxRunning]

/-- External's TX timer runs with the owner. -/
theorem running_tx_ext (s : State) : s.running .ext .tx = true ↔ s.bypassMode = false ∧ s.extOwner.isSome = true := by
  simp [State.running, State.txRunning]

/-- A host's TX timer runs with External's frame to it. -/
theorem running_tx_host (s : State) (h : HostPort) :
    s.running (hostPort h) .tx = true ↔
      s.bypassMode = false ∧ Delivering (s.rxp .ext) ∧ (s.rxp .ext).dest = hostPort h := by
  cases h <;> simp [State.running, State.txRunning, hostPort]

/-! ## Resets -/

theorem period_of_portsTicked {s t : State} (h : PortsTicked s t) (p : Port) (d : Dir) :
    (t.tmo p d).timeoutPeriod = (s.tmo p d).timeoutPeriod := by
  rw [State.tmo, (h.2 p).tmo d]

theorem framed_parserReset {s : State} (h : Framed s) (r : Port) : Framed (parserReset s r) := by
  have rxp : ∀ q, (parserReset s r).rxp q = if q = r then (s.rxp r).atBoundary else s.rxp q := fun q => by
    rw [State.rxp, port_parserReset]
  refine ⟨fun q => ?_, fun g => ?_, h.timer.of_kept (fun q d => ?_) fun q d => ?_⟩
  · rw [parserReset_prm, parserReset_bypassMode, rxp]
    split
    · exact parserOk_atBoundary _ _ _ _
    · exact h.parser q
  · have owner := h.owner g
    rw [parserReset_extOwner, rxp]
    by_cases hg : hostPort g = r
    · subst hg
      simp only [asHost_hostPort, if_true]
      constructor
      · intro free
        split at free
        next => cases free
        next kept => exact absurd ⟨by rw [free]; simp, free⟩ kept
      · simp [Delivering, Parser.atBoundary]
    · rw [if_neg hg, ← owner]
      split
      next taken =>
        refine iff_of_false nofun fun ho => hg ?_
        rw [ho] at taken
        exact (asHost_eq_some.mp taken.2.symm).symm
      next => exact Iff.rfl
  · exact period_of_portsTicked (portsTicked_parserReset s r) q d
  · have timer := port_parserReset s r q
    cases d with
    | rx =>
      by_cases hq : q = r
      · exact .inl (by rw [State.timer, State.tmo, timer]; exact if_pos hq)
      · refine .inr ⟨by rw [State.timer, State.tmo, timer]; exact if_neg hq, fun on => ?_⟩
        rw [running_rx] at on ⊢
        rw [parserReset_bypassMode, rxp, if_neg hq]
        exact on
    | tx =>
      by_cases stop : (q = .ext ∧ s.extOwner ≠ none ∧ s.extOwner = asHost r) ∨
          (r = .ext ∧ Delivering (s.rxp .ext) ∧ (s.rxp .ext).dest = q)
      · exact .inl (by rw [State.timer, State.tmo, timer]; exact if_pos stop)
      · refine .inr ⟨by rw [State.timer, State.tmo, timer]; exact if_neg stop, fun on => ?_⟩
        obtain rfl | ⟨g, rfl⟩ := ext_or_hostPort q
        · rw [running_tx_ext] at on ⊢
          rw [parserReset_bypassMode, parserReset_extOwner, if_neg fun taken => stop (.inl ⟨rfl, taken⟩)]
          exact on
        · rw [running_tx_host] at on ⊢
          have other : Port.ext ≠ r := fun hr => stop (.inr ⟨hr.symm, on.2⟩)
          rw [parserReset_bypassMode, rxp, if_neg other]
          exact on

theorem sameFraming_clearPort (s : State) (p : Port) : SameFraming s (clearPort s p) := by
  have port : ∀ q, ((clearPort s p).port q).rxp = (s.port q).rxp ∧ ((clearPort s p).port q).tmo = (s.port q).tmo :=
    fun q => by
      rw [port_clearPort]
      split
      next h => subst h; exact ⟨rfl, rfl⟩
      next => exact ⟨rfl, rfl⟩
  refine ⟨rfl, rfl, rfl, fun q => (port q).1, fun q d => ?_, fun q d => ?_⟩
  · rw [State.timer, State.tmo, (port q).2]
  · rw [State.tmo, (port q).2]

theorem framed_portReset {s : State} (h : Framed s) (p : Port) : Framed (portReset s p) :=
  framed_parserReset ((sameFraming_clearPort s p).framed h) p

theorem sameFraming_recoverPort (s : State) (p : Port) : SameFraming (portReset s p) (recoverPort s p) := by
  refine ⟨by simp, by simp, ?_, fun q => ?_, fun q d => ?_, fun q d => ?_⟩
  · rw [recoverPort_extOwner, portReset_extOwner]
  · rw [State.rxp, port_recoverPort]
  · rw [State.timer, State.tmo, port_recoverPort]
  · rw [State.tmo, port_recoverPort]

/-- A condition that every step of a fold keeps. -/
theorem foldl_keeps {α σ : Type} {P : σ → Prop} {f : σ → α → σ} (step : ∀ s a, P s → P (f s a)) (l : List α) (s : σ)
    (h : P s) : P (l.foldl f s) :=
  foldl_rel (R := fun s t => P s → P t) (fun _ h => h) (fun h h' hs => h' (h hs)) (fun s a => step s a) l s h

theorem framed_recovery {s : State} (h : Framed s) : Framed (recovery s) :=
  foldl_keeps (fun s p h => (sameFraming_recoverPort s p).framed (framed_portReset h p)) allPorts s h

theorem framed_resetAll {s : State} (h : Framed s) : Framed (allPorts.foldl parserReset s) :=
  foldl_keeps (P := Framed) (f := parserReset) (fun _ p h => framed_parserReset h p) allPorts s h

theorem resetAll_boundary (s : State) (q : Port) : ((allPorts.foldl parserReset s).rxp q).phase = .boundary := by
  cases q <;> simp [allPorts, State.rxp, port_parserReset, Parser.atBoundary]

/-- With every parser at a boundary nothing runs in either mode, so the mode may be switched (42_framer.md R130). -/
theorem framed_switchMode {s : State} (h : Framed s) (idle : ∀ p, (s.rxp p).phase = .boundary) (en : Bool) :
    Framed { s with bypassMode := en } := by
  have not_delivering : ∀ p, ¬ Delivering (s.rxp p) := fun p => by simp [Delivering, idle p]
  have free : s.extOwner = none := Option.eq_none_iff_forall_ne_some.mpr fun g hg =>
    not_delivering _ ((h.owner g).mp hg)
  have stopped : ∀ p d, s.running p d = false := by
    intro p d
    rw [← Bool.not_eq_true]
    cases d with
    | rx => rw [running_rx]; exact fun on => on.2 (idle p)
    | tx =>
      obtain rfl | ⟨g, rfl⟩ := ext_or_hostPort p
      · rw [running_tx_ext, free]; simp
      · rw [running_tx_host]; exact fun on => not_delivering _ on.2.1
  refine ⟨fun p => ?_, h.owner, h.timer.of_kept (fun _ _ => rfl) fun p d => .inl ((h.timer p d).1 (stopped p d))⟩
  exact { h.parser p with bypassed := fun _ => idle p }

/-! ## The supervisor and a tick -/

theorem timer_setTmo (s : State) (p q : Port) (d e : Dir) (x : TimeoutRec) :
    (s.setTmo p d x).timer q e = if q = p ∧ e = d then x.timer else s.timer q e := by
  split
  next h =>
    obtain ⟨rfl, rfl⟩ := h
    rw [State.timer, State.tmo, port_setTmo_eq]
    dsimp only
    rw [if_pos rfl, PerDir.get_set_self]
  next h => exact timer_setTmo_ne s x h

theorem timer_setTimer (s : State) (p q : Port) (d e : Dir) (n : Nat) :
    (s.setTimer p d n).timer q e = if q = p ∧ e = d then n else s.timer q e := timer_setTmo s p q d e _

theorem timer_incTimeout (s : State) (p q : Port) (d e : Dir) : (s.incTimeout p d).timer q e = s.timer q e := by
  refine (timer_setTmo s p q d e _).trans ?_
  split
  next h => obtain ⟨rfl, rfl⟩ := h; rfl
  next => rfl

theorem framed_counted {s : State} (h : Framed s) (p : Port) (d : Dir) : Framed (counted s p d) := by
  have rxp : ∀ q, (counted s p d).rxp q = s.rxp q := fun q => by simp [counted, State.rxp]
  refine ⟨fun q => by rw [rxp]; exact h.parser q, fun g => by rw [rxp]; exact h.owner g,
    h.timer.of_kept (period_of_portsTicked (portsTicked_counted s p d)) fun q e => ?_⟩
  have timer : (counted s p d).timer q e = if q = p ∧ e = d then 0 else s.timer q e :=
    (timer_incTimeout (s.setTimer p d 0) p q d e).trans (timer_setTimer s p q d e 0)
  by_cases hq : q = p ∧ e = d
  · exact .inl (by rw [timer, if_pos hq])
  · exact .inr ⟨by rw [timer, if_neg hq],
      fun on => (running_congr (s := s) (t := counted s p d) rfl rfl rxp q e).trans on⟩

theorem framed_expire {s : State} (h : Framed s) (p : Port) (d : Dir) : Framed (expire s p d) := by
  rw [expire_eq]
  split
  · obtain ⟨heq, -⟩ | ⟨r, heq, -⟩ := resync_cases (counted s p d) p d <;> rw [heq]
    · exact framed_counted h p d
    · exact framed_parserReset (framed_counted h p d) r
  · exact framed_counted h p d

/-- A running timer advances below its period (43_timeout.md R148). -/
theorem framed_advance {s : State} (h : Framed s) {p : Port} {d : Dir} (on : s.running p d = true)
    (below : s.timer p d + 1 < (s.tmo p d).timeoutPeriod) : Framed (s.setTimer p d (s.timer p d + 1)) := by
  have rxp : ∀ q, (s.setTimer p d (s.timer p d + 1)).rxp q = s.rxp q := fun q => by simp [State.rxp]
  refine ⟨fun q => by rw [rxp]; exact h.parser q, fun g => by rw [rxp]; exact h.owner g, fun q e => ?_⟩
  rw [timer_setTimer, period_of_portsTicked (portsTicked_setTimer s p d _),
    running_congr (s := s) (t := s.setTimer p d _) rfl rfl rxp q e]
  obtain ⟨stopped, lt, le⟩ := h.timer q e
  split
  next hq =>
    obtain ⟨rfl, rfl⟩ := hq
    exact ⟨fun off => by rw [on] at off; (cases off), below, le⟩
  next => exact ⟨stopped, lt, le⟩

theorem framed_superviseOne {s : State} (h : Framed s) (p : Port) (d : Dir) : Framed (superviseOne s p d) := by
  obtain ⟨-, heq⟩ | ⟨on, -, below, heq⟩ | ⟨-, heq⟩ := superviseOne_cases s p d <;> rw [heq]
  · exact framed_expire h p d
  · exact framed_advance h on below
  · exact h

theorem framed_supervise {s : State} (h : Framed s) : Framed (supervise s) :=
  foldl_keeps (P := Framed) (f := supervisePort)
    (fun _ p h => framed_superviseOne (framed_superviseOne h p .rx) p .tx) allPorts s h

theorem framed_setPoll {s : State} (h : Framed s) (n : Nat) : Framed (s.setPoll n) :=
  SameFraming.framed (s := s) ⟨rfl, rfl, rfl, fun _ => rfl, fun _ _ => rfl, fun _ _ => rfl⟩ h

theorem framed_xoffPoll {s : State} (h : Framed s) : Framed (xoffPoll s) := by
  obtain heq | ⟨-, heq⟩ | heq := xoffPoll_cases s <;> rw [heq]
  · exact framed_setPoll h _
  · exact framed_setPoll h _
  · exact framed_setPoll (framed_recovery h) _

theorem framed_tickState {s : State} (h : Framed s) (a : Ack) : Framed (tickState s a) := by
  have gate : Framed (tickGate s a) :=
    SameFraming.framed (s := s) ⟨rfl, rfl, rfl, fun _ => rfl, fun _ _ => rfl, fun _ _ => rfl⟩ h
  obtain heq | heq := tickState_cases s a <;> rw [heq]
  · exact gate
  · exact framed_xoffPoll (framed_supervise gate)

/-! ## Settings -/

/-- A period of CONFIG_TIMEOUT is 1 to 16383, and the timer restarts (43_timeout.md R145). -/
theorem framed_configTimeout {s : State} (h : Framed s) (p : Port) (f : DirField) (en rs : Bool) {per : Nat}
    (pos : 1 ≤ per) (le : per ≤ 16383) :
    Framed (s.setPort p { s.port p with tmo := configuredTmo (s.port p).tmo f en rs per }) := by
  generalize ht : s.setPort p { s.port p with tmo := configuredTmo (s.port p).tmo f en rs per } = t
  have rxp : ∀ q, t.rxp q = s.rxp q := fun q => by
    rw [← ht, State.rxp, State.port_setPort]
    split
    next hq => subst hq; rfl
    next => rfl
  have hprm : t.prm = s.prm := by rw [← ht]; rfl
  have hb : t.bypassMode = s.bypassMode := by rw [← ht]; rfl
  have ho : t.extOwner = s.extOwner := by rw [← ht]; rfl
  have tmo : ∀ q d, t.tmo q d = s.tmo q d ∨ t.tmo q d = (s.tmo q d).configure en rs per := fun q d => by
    rw [← ht, State.tmo, State.port_setPort]
    split
    next hq =>
      subst hq
      cases d <;> simp only [configuredTmo, PerDir.get_tx, PerDir.get_rx, State.tmo] <;> split
      all_goals simp
    next => exact .inl rfl
  refine ⟨fun q => by rw [hprm, hb, rxp]; exact h.parser q, fun g => by rw [ho, rxp]; exact h.owner g, fun q d => ?_⟩
  obtain ⟨stopped, below, bound⟩ := h.timer q d
  rw [running_congr hb ho rxp, State.timer]
  obtain same | new := tmo q d
  · rw [same]; exact ⟨stopped, below, bound⟩
  · rw [new]; exact ⟨fun _ => rfl, pos, le⟩

end Sys2Proof.Machine
end

section
/-!
PROOF. The framing invariant over the rules of the hub core, and over every event (10_state.md R22, 42_framer.md R115
to R129, 43_timeout.md R146, R147).
-/

namespace Sys2Proof.Machine

/-! ## Owner and timers over a rule -/

/-- A rule for External's stream leaves the ownership. -/
theorem ownerInv_of_ext {s t : State} (h : OwnerInv s) (owner : t.extOwner = s.extOwner)
    (rxp : ∀ q, q ≠ .ext → t.rxp q = s.rxp q) : OwnerInv t := fun g => by
  rw [owner, rxp _ (hostPort_ne_ext g)]
  exact h g

/-- A rule that neither begins nor ends a delivery leaves the ownership. -/
theorem ownerInv_of_delivering {s t : State} {p : Port} (h : OwnerInv s) (owner : t.extOwner = s.extOwner)
    (rxp : ∀ q, q ≠ p → t.rxp q = s.rxp q) (delivering : Delivering (t.rxp p) ↔ Delivering (s.rxp p)) : OwnerInv t :=
  fun g => by
    rw [owner, h g]
    by_cases hp : hostPort g = p
    · rw [hp]; exact delivering.symm
    · rw [rxp _ hp]

/-- The path goes to the host whose frame begins to be delivered (42_framer.md R121). -/
theorem ownerInv_of_begin {s t : State} {g : HostPort} (h : OwnerInv s) (free : s.extOwner = none)
    (owner : t.extOwner = some g) (rxp : ∀ q, q ≠ hostPort g → t.rxp q = s.rxp q)
    (delivering : Delivering (t.rxp (hostPort g))) : OwnerInv t := fun f => by
  rw [owner]
  by_cases hf : f = g
  · subst hf; exact iff_of_true rfl delivering
  · rw [rxp _ fun e => hf (hostPort_inj.mp e), ← h f, free]
    exact iff_of_false (fun e => hf (Option.some.inj e).symm) nofun

/-- The path is free after the frame that held it (42_framer.md R129). -/
theorem ownerInv_of_end {s t : State} {g : HostPort} (h : OwnerInv s) (held : Delivering (s.rxp (hostPort g)))
    (owner : t.extOwner = none) (rxp : ∀ q, q ≠ hostPort g → t.rxp q = s.rxp q)
    (ended : ¬ Delivering (t.rxp (hostPort g))) : OwnerInv t := fun f => by
  rw [owner]
  refine iff_of_false nofun fun del => ?_
  by_cases hf : f = g
  · subst hf; exact ended del
  · rw [rxp _ fun e => hf (hostPort_inj.mp e), ← h f, (h g).mpr held] at del
    exact hf (Option.some.inj del).symm

/-- A rule restarts the RX timer of its source and the TX timer toward `d`; every other timer keeps running: the path
keeps its owner unless `d` is External, and External's frame its destination unless that is `d`. -/
theorem timerInv_of_rule {s t : State} {p : Port} {d : Option Port} (h : TimerInv s)
    (bypassMode : t.bypassMode = s.bypassMode) (rxp : ∀ q, q ≠ p → t.rxp q = s.rxp q)
    (period : ∀ q e, (t.tmo q e).timeoutPeriod = (s.tmo q e).timeoutPeriod)
    (timer : ∀ q e, t.timer q e = ((restartedTimers s p d q).get e).timer)
    (owner : d ≠ some .ext → t.extOwner = s.extOwner)
    (dest : p = .ext → Delivering (s.rxp .ext) → d = some (s.rxp .ext).dest) : TimerInv t := by
  refine h.of_kept period fun q e => ?_
  rw [timer]
  cases e with
  | rx =>
    by_cases hq : q = p
    · exact .inl (if_pos hq)
    · refine .inr ⟨if_neg hq, fun on => ?_⟩
      rw [running_rx] at on ⊢
      rw [bypassMode, rxp q hq]
      exact on
  | tx =>
    by_cases hd : d = some q
    · exact .inl (if_pos hd)
    · refine .inr ⟨if_neg hd, fun on => ?_⟩
      obtain rfl | ⟨g, rfl⟩ := ext_or_hostPort q
      · rw [running_tx_ext] at on ⊢
        rw [bypassMode, owner hd]
        exact on
      · rw [running_tx_host] at on ⊢
        by_cases hp : p = .ext
        · exact absurd ((dest hp on.2.1).trans (congrArg some on.2.2)) hd
        · rw [bypassMode, rxp .ext (Ne.symm hp)]
          exact on

theorem completedTimers_timer (s : State) (p d q : Port) (e : Dir) :
    ((completedTimers s p d q).get e).timer = ((restartedTimers s p (some d) q).get e).timer := by
  cases e <;> rfl

theorem CorePort.period {s : State} {p q : Port} {x : PortState} (h : CorePort s p q x) (d : Dir) :
    (x.tmo.get d).timeoutPeriod = (s.tmo q d).timeoutPeriod := by
  rw [h.tmo d]

/-! ## The rules -/

/-- What is left to show of a rule: the new parser, the ownership, and which timers it restarts. -/
theorem Framed.of_rule {s t : State} {p : Port} {d : Option Port} (h : Framed s) (frame : CoreFrame s t)
    (case : CoreCase s p t) (parser : ParserOk s.prm s.bypassMode p (t.rxp p)) (owner : OwnerInv t)
    (timer : ∀ q e, t.timer q e = ((restartedTimers s p d q).get e).timer)
    (kept : d ≠ some .ext → t.extOwner = s.extOwner)
    (dest : p = .ext → Delivering (s.rxp .ext) → d = some (s.rxp .ext).dest) : Framed t := by
  have rxp : ∀ q, q ≠ p → t.rxp q = s.rxp q := fun q => (case.corePort q).rxp
  refine ⟨fun q => ?_, owner,
    timerInv_of_rule h.timer frame.bypassMode rxp (fun q => (case.corePort q).period) timer kept dest⟩
  rw [frame.prm, frame.bypassMode]
  by_cases hq : q = p
  · subst hq; exact parser
  · rw [rxp q hq]; exact h.parser q

theorem FramePorts.timer_restarted {s t : State} {p : Port} {d e : Option Port} {l : List Byte} {r : Parser}
    (h : FramePorts s t p d l r (restartedTimers s p e)) (q : Port) (x : Dir) :
    t.timer q x = ((restartedTimers s p e q).get x).timer := by
  rw [State.timer, State.tmo, h.tmo]

theorem FramePorts.timer_completed {s t : State} {p e : Port} {d : Option Port} {l : List Byte} {r : Parser}
    (h : FramePorts s t p d l r (completedTimers s p e)) (q : Port) (x : Dir) :
    t.timer q x = ((restartedTimers s p (some e) q).get x).timer := by
  rw [State.timer, State.tmo, h.tmo, completedTimers_timer]

theorem FramePorts.rxp_self {s t : State} {p : Port} {d : Option Port} {l : List Byte} {r : Parser}
    {tm : Port → PerDir TimeoutRec} (h : FramePorts s t p d l r tm) : t.rxp p = r := by
  rw [h.rxp, if_pos rfl]

/-- A byte that passes by the parser leaves the framing. -/
theorem sameFraming_of_moved {s t : State} {p : Port} {d : Option Port} {l : List Byte} (frame : CoreFrame s t)
    (owner : t.extOwner = s.extOwner) (ports : ∀ q, t.port q = movedPort s p d l q) : SameFraming s t :=
  ⟨frame.prm, frame.bypassMode, owner, fun q => by rw [State.rxp, ports]; rfl,
    fun q e => by rw [State.timer, State.tmo, ports]; rfl, fun q e => by rw [State.tmo, ports]; rfl⟩

/-- External's frame has ended; its timers are stopped (42_framer.md R129). -/
theorem framed_of_ended {s t : State} (h : Framed s) (frame : CoreFrame s t) (case : CoreCase s .ext t)
    (owner : t.extOwner = s.extOwner) (rxp : t.rxp .ext = (s.rxp .ext).atBoundary)
    (timer : ∀ q e, t.timer q e = ((restartedTimers s .ext (some (s.rxp .ext).dest) q).get e).timer) : Framed t :=
  h.of_rule frame case (by rw [rxp]; exact parserOk_atBoundary _ _ _ _)
    (ownerInv_of_ext h.owner owner fun q => (case.corePort q).rxp) timer (fun _ => owner) fun _ _ => rfl

theorem framed_coreCase {s t : State} {p : Port} (h : Framed s) (frame : CoreFrame s t) (case : CoreCase s p t) :
    Framed t := by
  have whole := case
  have same := h.parser p
  have others : ∀ q, q ≠ p → t.rxp q = s.rxp q := fun q => (case.corePort q).rxp
  cases case with
  | passed d l room owner faults ports => exact (sameFraming_of_moved frame owner ports).framed h
  | undefined d b at_hand cls room owner bitmap time ports => exact (sameFraming_of_moved frame owner ports).framed h
  | started b sh d at_hand dest owner faults ports =>
    obtain ⟨-, trailer, remain, -⟩ := same.boundary at_hand.boundary
    refine h.of_rule frame whole ?_ ?_ ports.timer_restarted (fun _ => owner) ?_
    · rw [ports.rxp_self, at_hand.framed]
      exact .of_header rfl ⟨Nat.le_refl 1, one_lt_hdrLen sh, trailer, remain, rfl⟩ dest
    · refine ownerInv_of_delivering h.owner owner others ?_
      rw [ports.rxp_self]
      simp [Delivering, at_hand.boundary]
    · rintro rfl del
      simp [Delivering, at_hand.boundary] at del
  | held b phase short owner faults ports =>
    obtain ⟨-, -, trailer, remain, crc⟩ := same.header phase
    have off : (s.rxp p).phase ≠ .boundary := by simp [phase]
    refine h.of_rule frame whole ?_ ?_ ports.timer_restarted (fun _ => owner) ?_
    · rw [ports.rxp_self, same.framed off]
      exact .of_header phase ⟨by simp, by simpa using short, trailer, remain, crc⟩ (same.dest off)
    · refine ownerInv_of_delivering h.owner owner others ?_
      rw [ports.rxp_self]
    · rintro rfl del
      simp [Delivering, phase] at del
  | header b l n ph phase bytes length room free next owner faults ports =>
    obtain ⟨-, -, trailer, -, -⟩ := same.header phase
    have off : (s.rxp p).phase ≠ .boundary := by simp [phase]
    have del : Delivering (t.rxp p) := by
      rw [ports.rxp_self]
      exact next.imp (fun h => h.1) fun h => h.1
    refine h.of_rule frame whole ?_ ?_
      ports.timer_restarted (fun hd => by rw [owner, if_neg fun e => hd (congrArg some e)]) fun he _ => by rw [he]
    · rw [ports.rxp_self, same.framed off]
      obtain ⟨rfl, pos⟩ | ⟨rfl, zero, ends⟩ := next
      · exact .of_payload rfl ⟨rfl, trailer, pos, length ▸ payloadLength_le _ _⟩ (same.dest off)
      · refine .of_crc rfl ⟨rfl, zero, by simp [trailer], fun _ => trailer, fun he => ?_⟩ (same.dest off)
        subst he
        simpa [State.endsAtPayload, asHost] using ends
    · obtain rfl | ⟨g, rfl⟩ := ext_or_hostPort p
      · have inward : (s.rxp .ext).dest ≠ .ext := fun e => (same.dest off).mp e rfl
        exact ownerInv_of_ext h.owner (by rw [owner, if_neg inward]) others
      · have outward : (s.rxp (hostPort g)).dest = .ext := (same.dest off).mpr (hostPort_ne_ext g)
        exact ownerInv_of_begin h.owner (free outward) (by rw [owner, if_pos outward, asHost_hostPort]) others del
  | headerEnd l phase ends room owner faults ports =>
    obtain ⟨rfl, -⟩ := eq_ext_of_endsAtPayload ends
    exact framed_of_ended h frame whole owner ports.rxp_self
      ports.timer_completed
  | payload b ph phase room next owner faults ports =>
    obtain ⟨hdr, trailer, pos, le⟩ := same.payload phase
    have off : (s.rxp p).phase ≠ .boundary := by simp [phase]
    refine h.of_rule frame whole ?_ ?_ ports.timer_restarted (fun _ => owner)
      fun he _ => by rw [he]
    · rw [ports.rxp_self, same.framed off]
      obtain ⟨rfl, more⟩ | ⟨rfl, last, ends⟩ := next
      · exact .of_payload rfl ⟨hdr, trailer, Nat.le_sub_one_of_lt more, by dsimp only; omega⟩ (same.dest off)
      · have zero : (s.rxp p).remain - 1 = 0 := by omega
        refine .of_crc rfl ⟨hdr, zero, by simp [trailer], fun _ => trailer, fun he => ?_⟩ (same.dest off)
        subst he
        simpa [State.endsAtPayload, asHost] using ends
    · refine ownerInv_of_delivering h.owner owner others (iff_of_true ?_ (.inl phase))
      rw [ports.rxp_self]
      exact next.imp (fun h => h.1) fun h => h.1
  | payloadEnd b phase ends room owner faults ports =>
    obtain ⟨rfl, -⟩ := eq_ext_of_endsAtPayload ends
    exact framed_of_ended h frame whole owner ports.rxp_self
      ports.timer_completed
  | sealed g l host phase room owner faults ports =>
    subst host
    have off : (s.rxp (hostPort g)).phase ≠ .boundary := by simp [phase]
    have outward : (s.rxp (hostPort g)).dest = .ext := (same.dest off).mpr (hostPort_ne_ext g)
    have rxp : t.rxp (hostPort g) = (s.rxp (hostPort g)).atBoundary := by rw [State.rxp, ports]; exact if_pos rfl
    refine h.of_rule (d := some .ext) frame whole ?_ ?_ (fun q e => ?_)
      (fun ne => absurd rfl ne) fun he => absurd he (hostPort_ne_ext g)
    · rw [rxp]; exact parserOk_atBoundary _ _ _ _
    · refine ownerInv_of_end h.owner (.inr phase) owner others ?_
      rw [rxp]
      simp [Delivering, Parser.atBoundary]
    · have progressed :
          ((progress s (hostPort g) (some .ext)).port q).tmo = restartedTimers s (hostPort g) (some .ext) q := by
        rw [port_progress]
      rw [State.timer, State.tmo, ports, outward, completedTimers_of_restarted progressed (progress_prm _ _ _),
        completedTimers_timer]
  | trailerByte b ext phase first owner faults ports =>
    subst ext
    obtain ⟨hdr, remain, le_one, -, carries⟩ := same.crc phase
    have off : (s.rxp .ext).phase ≠ .boundary := by simp [phase]
    refine h.of_rule frame whole ?_
      (ownerInv_of_ext h.owner owner others) ports.timer_restarted (fun _ => owner) fun _ _ => rfl
    rw [ports.rxp_self, same.framed off]
    refine .of_crc phase ⟨hdr, remain, ?_, fun he => absurd rfl he, carries⟩ (same.dest off)
    rw [List.length_append, List.length_singleton]
    omega
  | trailerMatch ext phase owner faults ports =>
    subst ext
    exact framed_of_ended h frame whole owner ports.rxp_self ports.timer_completed
  | trailerMismatch t0 t1 ext phase trailer at_hand differ owner bitmap time ports =>
    subst ext
    refine framed_of_ended h frame whole owner
      ?_ fun q e => ?_
    · rw [State.rxp, ports]; simp
    · rw [State.timer, State.tmo, ports, completedTimers_timer]

/-! ## Every event -/

/-- The events that can move a parser, the owner, a timer or a period. -/
def FramingEvent (i : Instr) : Prop :=
  (∃ q, CoreEvent i q) ∨ (∃ q, i = .resetPort q) ∨ (∃ en, i = .setBypass en) ∨ (∃ a, i = .tick a) ∨
    ∃ p f en rs per, i = .configTimeout p f en rs per

/-- Every other event leaves the framing, by the clauses on what each event writes. -/
theorem EventEffect.sameFraming {s t : State} {i : Instr} (h : EventEffect s i t) (hi : ¬ FramingEvent i) :
    SameFraming s t := by
  have no_core : ∀ q, ¬ CoreEvent i q := fun q hq => hi (.inl ⟨q, hq⟩)
  have no_reset : ∀ q, i ≠ .resetPort q := fun q hq => hi (.inr (.inl ⟨q, hq⟩))
  have no_bypass : ¬ ∃ en, i = .setBypass en := fun hq => hi (.inr (.inr (.inl hq)))
  have no_tick : ¬ ∃ a, i = .tick a := fun hq => hi (.inr (.inr (.inr (.inl hq))))
  have no_config : ∀ p, ¬ ∃ f en rs per, i = .configTimeout p f en rs per :=
    fun p hq => hi (.inr (.inr (.inr (.inr ⟨p, hq⟩))))
  refine ⟨h.prm_schedule.1, ?_, ?_, fun p => ?_, fun p d => ?_, fun p d => ?_⟩ <;> by_contra hne
  · exact no_bypass (h.bypassMode_written hne)
  · obtain ⟨g, core | reset | bypass | tick⟩ := h.extOwner_written hne
    · exact no_core _ (.inl core)
    · exact no_reset _ reset
    · exact no_bypass bypass
    · exact no_tick tick
  · obtain core | reset | bypass | tick := (h.portEffect p).portWritten.rxp hne
    · exact no_core p core
    · exact no_reset p reset
    · exact no_bypass bypass
    · exact no_tick tick
  · obtain config | ⟨q, core⟩ | ⟨q, reset⟩ | bypass | tick := (h.portEffect p).portWritten.timer d hne
    · exact no_config p config
    · exact no_core q core
    · exact no_reset q reset
    · exact no_bypass bypass
    · exact no_tick tick
  · exact no_config p ((h.portEffect p).portWritten.config d fun e => hne (congrArg (fun x => x.2.2) e))

theorem EventEffect.framed {s t : State} {i : Instr} (h : EventEffect s i t) (hs : Framed s) : Framed t := by
  have effect := h
  cases h with
  | nothing => exact hs
  | core i p t runs step => exact framed_coreCase hs (coreFrame_of_coreStep step) (coreCase_of_coreStep step)
  | resetPort p => exact framed_portReset hs p
  | setBypass en =>
    exact framed_switchMode (framed_resetAll hs) (resetAll_boundary s) en
  | tick a => exact framed_tickState hs a
  | configTimeout p f en rs per hper => exact framed_configTimeout hs p f en rs hper (by have := per.isLt; omega)
  | _ =>
    refine (effect.sameFraming ?_).framed hs
    simp [FramingEvent, CoreEvent, encode]

/-- No fault and no count is External's own: a CRC error is the addressee's, and the addressee of External's frame is a
host (10_state.md R20, 60_exceptions.md R215). -/
theorem EventEffect.addresseeInv {s t : State} {i : Instr} (h : EventEffect s i t) (hs : Framed s)
    (ha : AddresseeInv s) : AddresseeInv t := by
  obtain ⟨bit, count, awake⟩ := ha
  have inward : (s.rxp .ext).phase = .crc → (s.rxp .ext).dest ≠ .ext := fun phase e =>
    ((hs.parser .ext).dest (by simp [phase])).mp e rfl
  refine ⟨?_, ?_, fun p => ?_⟩
  · rw [← Bool.not_eq_true]
    intro on
    obtain ⟨-, -, phase, dest, -⟩ := h.bit_raised (k := .crcError) (p := .ext) bit on
    exact inward phase dest
  · have kept : (t.port .ext).crcErrCount = (s.port .ext).crcErrCount := by
      by_contra hne
      obtain rfl := (h.portEffect .ext).portWritten.crcErr hne
      cases h with
      | nothing => exact hne rfl
      | core i p t runs step =>
        obtain same | ⟨rfl, phase, dest, -⟩ := ((coreCase_of_coreStep step).corePort .ext).crcErr
        · exact hne same
        · exact inward phase dest.symm
    exact kept.trans count
  · rw [← Bool.not_eq_true]
    intro asleep
    have := (h.portEffect p).portWritten.asleep asleep
    rw [awake p] at this
    cases this

/-- Settles O5: the framing part by cases over the events, the part on faults and sleep requests by their causes. -/
theorem stepKeepsTheFrameInvariant : Obligations.StepKeepsTheFrameInvariant := by
  intro s t _ hs h
  refine step_keeps_of_effect (P := FrameInv) ?_ ?_ hs h
  · exact fun s l r hs => hs
  · intro i s t hs effect
    obtain ⟨framed, addressee⟩ := (frameInv_iff s).mp hs
    exact (frameInv_iff t).mpr ⟨effect.framed framed, effect.addresseeInv framed addressee⟩

end Sys2Proof.Machine
end

section
/-!
PROOF. What `step` runs (20_memory.md R47, R48): the event of the next word, and for a CORE_RX at a boundary the event of
the first byte at hand, which is the same step of the hub core (42_framer.md R129).
-/

namespace Sys2Proof.Machine

/-! ## The event of a first byte -/

/-- A keepalive from External is the byte of its row (30_encoding.md R64). -/
theorem eq_of_classifyExt_keepalive {m : TypeMap} {b : Byte} (h : classifyExt m b = .keepalive) : b = 0xFF := by
  unfold classifyExt at h
  split_ifs at h with keepalive
  · exact keepalive
  · split at h <;> cases h

/-- An escape from External is the byte of its host's row (30_encoding.md R64, R68). -/
theorem eq_of_classifyExt_escape {m : TypeMap} {b : Byte} {h : HostPort} (hc : classifyExt m b = .escape h) :
    b = 0xF0 + BitVec.ofNat 8 (portNum (hostPort h)) := by
  unfold classifyExt at hc
  split_ifs at hc with _ h0 h1 h2
  · cases hc; exact h0
  · cases hc; exact h1
  · cases hc; exact h2
  · split at hc <;> cases hc

/-- The event that a first byte decodes to is the event of the byte's class (30_encoding.md R64, R65). -/
theorem exec_decodeFirstByte (s : State) (p : Port) (b : Byte) :
    exec (decodeFirstByte s.prm.typeMap p b) s =
      firstByteEvent s p b (classify s.prm.typeMap p b) (boundaryStep s p b) := by
  have named := classify_standsFor s.prm.typeMap p b
  cases hc : classify s.prm.typeMap p b <;> rw [hc] at named <;> simp only [boundaryStep, hc]
  case keepalive =>
    obtain ⟨rfl, hd⟩ := named
    obtain rfl := eq_of_classifyExt_keepalive hc
    rw [hd]; rfl
  case escape h =>
    obtain ⟨rfl, hd⟩ := named
    obtain rfl := eq_of_classifyExt_escape hc
    rw [hd, exec_escapeInstr]
  case frameStart h sh =>
    obtain ⟨rfl, hd⟩ | ⟨rfl, hd⟩ := named <;> rw [hd, exec_typeInstr] <;> rfl
  case undefined =>
    obtain ⟨rfl, hd⟩ | ⟨h, rfl, hd⟩ := named
    · rw [hd]; rfl
    · rw [hd, asHost_hostPort]; rfl

/-- At a boundary the event of the byte at hand is CORE_RX of its stream (42_framer.md R129 (iii)). -/
theorem exec_decodeFirstByte_of_atFirstByte {s : State} {p : Port} {b : Byte} (h : AtFirstByte s p b) :
    exec (decodeFirstByte s.prm.typeMap p b) s = exec (.coreRx p) s := by
  have enabled : s.atBoundaryWith p b = true ∧ classify s.prm.typeMap p b = classify s.prm.typeMap p b :=
    ⟨(atBoundaryWith_iff s p b).mpr h, rfl⟩
  calc exec (decodeFirstByte s.prm.typeMap p b) s
      = firstByteEvent s p b (classify s.prm.typeMap p b) (boundaryStep s p b) := exec_decodeFirstByte s p b
    _ = replyStep s (boundaryStep s p b) := if_pos enabled
    _ = replyStep s (coreStep s p) := by rw [coreStep_of_atFirstByte h]
    _ = exec (.coreRx p) s := (exec_coreRx s p).symm

/-! ## The event that a step fetches -/

/-- What is fetched is the decoded event, or, for CORE_RX, the event of the first byte at hand. -/
theorem resolve_cases (i : Instr) (s : State) :
    resolve i s = i ∨
    ∃ p b, i = .coreRx p ∧ AtFirstByte s p b ∧ resolve i s = decodeFirstByte s.prm.typeMap p b := by
  cases i
  case coreRx p =>
    cases hf : s.rxFifo p with
    | nil => exact .inl (by simp only [resolve, hf])
    | cons b rest =>
      by_cases hb : s.atBoundaryWith p b = true
      · exact .inr ⟨p, b, rfl, (atBoundaryWith_iff s p b).mp hb, by simp only [resolve, hf, hb, if_true]⟩
      · exact .inl (by simp only [resolve, hf, hb, Bool.false_eq_true, if_false])
  all_goals exact .inl rfl

/-- Refining CORE_RX by the first byte does not change what happens. -/
theorem exec_resolve (i : Instr) (s : State) : exec (resolve i s) s = exec i s := by
  obtain same | ⟨p, b, rfl, at_hand, first⟩ := resolve_cases i s
  · rw [same]
  · rw [first, exec_decodeFirstByte_of_atFirstByte at_hand]

theorem step_of_schedule_nil {s : State} (h : s.schedule = []) : step s = .next s := by
  simp only [step, h]

/-- A step takes the next word and runs the event it decodes to (20_memory.md R47, R48). -/
theorem step_of_decodeEvent {s : State} {w : Word32} {rest : List Word32} {i : Instr} (hs : s.schedule = w :: rest)
    (hd : decodeEvent w = .instr i) : step s = exec i { s with schedule := rest } := by
  simp only [step, hs, runWord, hd, exec_resolve]

/-- The bytes at hand do not depend on the schedule. -/
theorem AtFirstByte.with_schedule {s : State} {p : Port} {b : Byte} (h : AtFirstByte s p b) (l : List Word32) :
    AtFirstByte { s with schedule := l } p b :=
  ⟨⟨h.gate, h.framed, h.head⟩, h.boundary⟩

/-- Settles O12: the decoded event runs by `step_of_decodeEvent`, and a CORE_RX at a boundary is the event of the byte
at hand by `exec_decodeFirstByte_of_atFirstByte`. -/
theorem stepRunsTheDecodedEvent : Obligations.StepRunsTheDecodedEvent := by
  refine ⟨fun s w rest i => step_of_decodeEvent, fun s w rest p b hs hd at_hand => ?_, fun s => step_of_schedule_nil⟩
  have first := exec_decodeFirstByte_of_atFirstByte (at_hand.with_schedule rest)
  exact (step_of_decodeEvent hs hd).trans first.symm

end Sys2Proof.Machine
end

section
/-!
PROOF. Event words (30_encoding.md R71 to R74): a word is its four fields, and it decodes to an event exactly if it is
the word that the encoder writes for the event. Each check of the decoder has one rule for each direction: it passes the
field that the encoder writes, and it passes no other field.
-/

namespace Sys2Proof

/-! ## The four fields of a word -/

/-- A bit vector is its high and its low part. -/
theorem append_extractLsb'_self {n k : Nat} (x : BitVec (n + k)) : x.extractLsb' k n ++ x.extractLsb' 0 k = x := by
  rw [BitVec.extractLsb'_append_extractLsb'_eq_extractLsb' (Nat.zero_add k).symm, BitVec.extractLsb'_eq_self]

/-- The low part of a bit vector written as two parts. -/
theorem extractLsb'_append_low {n k : Nat} (x : BitVec n) (y : BitVec k) : (x ++ y).extractLsb' 0 k = y := by
  rw [BitVec.extractLsb'_append_eq_of_add_le (Nat.zero_add k).le, BitVec.extractLsb'_eq_self]

/-- A word is written from its own fields. -/
theorem eventWord_fields (w : Word32) :
    eventWord (w.extractLsb' 24 8) (w.extractLsb' 20 4) (w.extractLsb' 16 4) (w.extractLsb' 0 16) = w := by
  have hop : w.extractLsb' 24 8 ++ w.extractLsb' 20 4 = w.extractLsb' 20 12 :=
    BitVec.extractLsb'_append_extractLsb'_eq_extractLsb' rfl
  have hport : w.extractLsb' 20 12 ++ w.extractLsb' 16 4 = w.extractLsb' 16 16 :=
    BitVec.extractLsb'_append_extractLsb'_eq_extractLsb' rfl
  rw [eventWord, hop, hport]
  exact append_extractLsb'_self (n := 16) (k := 16) w

/-- The decoder reads the fields that a word is written from. -/
theorem decodeEvent_eventWord (op : BitVec 8) (port dir : BitVec 4) (arg : BitVec 16) :
    decodeEvent (eventWord op port dir arg) = decodeFields op port dir arg := by
  have upper : ∀ start len, (eventWord op port dir arg).extractLsb' (16 + start) len =
      (op ++ port ++ dir).extractLsb' start len := fun start len =>
    (BitVec.extractLsb'_append_eq_of_le (Nat.le_add_right 16 start)).trans (by rw [Nat.add_sub_cancel_left])
  have hop : (eventWord op port dir arg).extractLsb' 24 8 = op := by
    rw [upper 8 8, BitVec.extractLsb'_append_eq_of_le (by decide), BitVec.extractLsb'_append_eq_of_le (by decide),
      BitVec.extractLsb'_eq_self]
  have hport : (eventWord op port dir arg).extractLsb' 20 4 = port := by
    rw [upper 4 4, BitVec.extractLsb'_append_eq_of_le (by decide)]; exact extractLsb'_append_low op port
  have hdir : (eventWord op port dir arg).extractLsb' 16 4 = dir := by
    rw [upper 0 4]; exact extractLsb'_append_low (op ++ port) dir
  have harg : (eventWord op port dir arg).extractLsb' 0 16 = arg := extractLsb'_append_low (op ++ port ++ dir) arg
  rw [decodeEvent, hop, hport, hdir, harg]

/-! ## The fields that name an operand -/

theorem portOfField_eq_some {f : BitVec 4} {p : Port} : portOfField f = some p ↔ f = portField p := by
  cases p <;> revert f <;> decide

theorem hostOfField_eq_some {f : BitVec 4} {h : HostPort} : hostOfField f = some h ↔ f = hostField h := by
  cases h <;> revert f <;> decide

theorem dirOfField_eq_some {f : BitVec 4} {d : DirField} : dirOfField f = some d ↔ f = dirFieldBits d := by
  cases d <;> revert f <;> decide

theorem ackOfArg_eq_some {arg : BitVec 16} {a : Ack} : ackOfArg arg = some a ↔ arg = ackArg a := by
  unfold ackOfArg
  cases a <;> split_ifs <;> simp_all [ackArg]

@[simp] theorem portOfField_portField (p : Port) : portOfField (portField p) = some p := portOfField_eq_some.mpr rfl
@[simp] theorem hostOfField_hostField (h : HostPort) : hostOfField (hostField h) = some h := hostOfField_eq_some.mpr rfl
@[simp] theorem dirOfField_dirFieldBits (d : DirField) : dirOfField (dirFieldBits d) = some d :=
  dirOfField_eq_some.mpr rfl
@[simp] theorem ackOfArg_ackArg (a : Ack) : ackOfArg (ackArg a) = some a := ackOfArg_eq_some.mpr rfl

/-! ## The layouts of `arg` (30_encoding.md R74) -/

/-- A flag of one bit is the bit it is read from. -/
theorem flagBit_getLsbD {w : Nat} (x : BitVec w) (k : Nat) : flagBit 1 (x.getLsbD k) = x.extractLsb' k 1 := by
  ext i hi
  obtain rfl : i = 0 := by omega
  cases h : x.getLsbD k <;> simp [flagBit, h]

/-- An operand in the low bits, the unused bits 0. -/
theorem lowArg_of_unused {n k : Nat} {x : BitVec (n + k)} (h : x.extractLsb' k n = 0) : 0#n ++ x.extractLsb' 0 k = x :=
  (congrArg (· ++ x.extractLsb' 0 k) h.symm).trans (append_extractLsb'_self x)

/-- The unused bits of an `arg` that is written from an operand. -/
theorem unused_lowArg {n k : Nat} (y : BitVec k) : (0#n ++ y).extractLsb' k n = 0 := by
  rw [BitVec.extractLsb'_append_eq_of_le (Nat.le_refl k), Nat.sub_self, BitVec.extractLsb'_eq_self]; rfl

/-- A flag in bit 0, the unused bits 0. -/
theorem flagArg_of_unused {arg : BitVec 16} (h : arg.extractLsb' 1 15 = 0) : flagBit 16 (arg.getLsbD 0) = arg := by
  have widen : ∀ b, flagBit 16 b = 0#15 ++ flagBit 1 b := by decide
  rw [widen, flagBit_getLsbD]
  exact lowArg_of_unused (n := 15) (k := 1) h

theorem fields_flagArg (b : Bool) : (flagBit 16 b).extractLsb' 1 15 = 0 ∧ (flagBit 16 b)[0] = b := by
  revert b; decide

theorem byteArg_of_unused {arg : BitVec 16} (h : arg.extractLsb' 8 8 = 0) : 0#8 ++ arg.extractLsb' 0 8 = arg :=
  lowArg_of_unused (n := 8) (k := 8) h

theorem fields_byteArg (b : Byte) : (0#8 ++ b).extractLsb' 8 8 = 0 ∧ (0#8 ++ b).extractLsb' 0 8 = b :=
  ⟨unused_lowArg b, extractLsb'_append_low _ b⟩

theorem rateArg_of_unused {arg : BitVec 16} (h : arg.extractLsb' 3 13 = 0) : 0#13 ++ arg.extractLsb' 0 3 = arg :=
  lowArg_of_unused (n := 13) (k := 3) h

theorem fields_rateArg (r : BitVec 3) : (0#13 ++ r).extractLsb' 3 13 = 0 ∧ (0#13 ++ r).extractLsb' 0 3 = r :=
  ⟨unused_lowArg r, extractLsb'_append_low _ r⟩

/-- Two flags above a period. -/
theorem timeoutArg_eq (arg : BitVec 16) :
    flagBit 1 (arg.getLsbD 15) ++ flagBit 1 (arg.getLsbD 14) ++ arg.extractLsb' 0 14 = arg := by
  have flags : arg.extractLsb' 15 1 ++ arg.extractLsb' 14 1 = arg.extractLsb' 14 2 :=
    BitVec.extractLsb'_append_extractLsb'_eq_extractLsb' rfl
  rw [flagBit_getLsbD, flagBit_getLsbD, flags]
  exact append_extractLsb'_self (n := 2) (k := 14) arg

theorem fields_timeoutArg (en rs : Bool) (per : BitVec 14) :
    (flagBit 1 en ++ flagBit 1 rs ++ per)[15] = en ∧ (flagBit 1 en ++ flagBit 1 rs ++ per)[14] = rs ∧
    (flagBit 1 en ++ flagBit 1 rs ++ per).extractLsb' 0 14 = per := by
  have flags : ∀ en rs, (flagBit 1 en ++ flagBit 1 rs)[1] = en ∧ (flagBit 1 en ++ flagBit 1 rs)[0] = rs := by decide
  refine ⟨?_, ?_, extractLsb'_append_low _ per⟩ <;> rw [BitVec.getElem_append, dif_neg (by decide)]
  · exact (flags en rs).1
  · exact (flags en rs).2

/-- Two flags above a mode, the unused bits 0. -/
theorem monConfigArg_of_unused {arg : BitVec 16} (h : arg.extractLsb' 4 12 = 0) :
    0#12 ++ flagBit 1 (arg.getLsbD 3) ++ flagBit 1 (arg.getLsbD 2) ++ arg.extractLsb' 0 2 = arg := by
  have unused : arg.extractLsb' 4 12 ++ arg.extractLsb' 3 1 = arg.extractLsb' 3 13 :=
    BitVec.extractLsb'_append_extractLsb'_eq_extractLsb' rfl
  have flags : arg.extractLsb' 3 13 ++ arg.extractLsb' 2 1 = arg.extractLsb' 2 14 :=
    BitVec.extractLsb'_append_extractLsb'_eq_extractLsb' rfl
  rw [flagBit_getLsbD, flagBit_getLsbD, show 0#12 = arg.extractLsb' 4 12 from h.symm, unused, flags]
  exact append_extractLsb'_self (n := 14) (k := 2) arg

theorem fields_monConfigArg (m : BitVec 2) (rolling mirror : Bool) :
    (0#12 ++ flagBit 1 mirror ++ flagBit 1 rolling ++ m).extractLsb' 4 12 = 0 ∧
    (0#12 ++ flagBit 1 mirror ++ flagBit 1 rolling ++ m).extractLsb' 0 2 = m ∧
    (0#12 ++ flagBit 1 mirror ++ flagBit 1 rolling ++ m)[2] = rolling ∧
    (0#12 ++ flagBit 1 mirror ++ flagBit 1 rolling ++ m)[3] = mirror := by
  revert m rolling mirror; decide

/-- A flag above an index, the unused bits 0. -/
theorem monReadArg_of_unused {arg : BitVec 16} (h : arg.extractLsb' 5 11 = 0) :
    0#11 ++ flagBit 1 (arg.getLsbD 4) ++ arg.extractLsb' 0 4 = arg := by
  have unused : arg.extractLsb' 5 11 ++ arg.extractLsb' 4 1 = arg.extractLsb' 4 12 :=
    BitVec.extractLsb'_append_extractLsb'_eq_extractLsb' rfl
  rw [flagBit_getLsbD, show 0#11 = arg.extractLsb' 5 11 from h.symm, unused]
  exact append_extractLsb'_self (n := 12) (k := 4) arg

theorem fields_monReadArg (sel : Bool) (i : BitVec 4) :
    (0#11 ++ flagBit 1 sel ++ i).extractLsb' 5 11 = 0 ∧ (0#11 ++ flagBit 1 sel ++ i)[4] = sel ∧
    (0#11 ++ flagBit 1 sel ++ i).extractLsb' 0 4 = i := by
  revert sel i; decide

/-! ## Decoding what the encoder writes -/

@[simp] theorem noPortOp_written (k : Decoded) : noPortOp 15#4 0#4 k = k := rfl

@[simp] theorem portOp_written (p : Port) (k : Port → Decoded) : portOp (portField p) 0#4 k = k p := by
  simp [portOp]

@[simp] theorem hostOp_written (h : HostPort) (k : HostPort → Decoded) : hostOp (hostField h) 0#4 k = k h := by
  simp [hostOp]

@[simp] theorem dirOp_written (d : DirField) (allowed : DirField → Bool) (k : DirField → Instr) :
    dirOp (dirFieldBits d) allowed true k = .instr (k d) := by
  simp [dirOp]

@[simp] theorem argOp_true (i : Instr) : argOp true i = .instr i := rfl

@[simp] theorem agentOp_instr (i : Instr) : agentOp (.instr i) = .instr i := rfl

/-- The word that the encoder writes for an event decodes to the event, whatever its operands. -/
theorem decodeEvent_of_encode {i : Instr} {w : Word32} (h : encode i = .event w) : decodeEvent w = .instr i := by
  -- the first-byte rows are no words; in every other row each check passes the field that is written
  cases i <;> simp only [encode, Code.event.injEq, reduceCtorEq] at h
  all_goals
    subst h
    rw [decodeEvent_eventWord]
    simp [decodeFields, fields_flagArg, fields_byteArg, fields_rateArg, fields_timeoutArg, fields_monConfigArg,
      fields_monReadArg]

/-! ## What a decoded word was written for -/

/-- The event that the decoding `d` gives, if it gives one, is written as the word `w`. -/
def Writes (w : Word32) (d : Decoded) : Prop := ∀ i, d = .instr i → encode i = .event w

section
variable {op : BitVec 8} {port dir : BitVec 4} {arg : BitVec 16} {w : Word32}

theorem Writes.err (c : ErrCode) : Writes w (.err c) := nofun

theorem Writes.instr {i : Instr} (h : encode i = .event w) : Writes w (.instr i) := by
  rintro _ ⟨⟩; exact h

theorem Writes.of_noPort {k : Decoded} (h : Writes (eventWord op 0xF 0 arg) k) :
    Writes (eventWord op port dir arg) (noPortOp port dir k) := by
  unfold noPortOp
  split_ifs with hp hd
  · exact .err _
  · exact .err _
  · rw [not_not.mp hp, not_not.mp hd]; exact h

theorem Writes.of_port {k : Port → Decoded} (h : ∀ p, Writes (eventWord op (portField p) 0 arg) (k p)) :
    Writes (eventWord op port dir arg) (portOp port dir k) := by
  unfold portOp
  split
  · exact .err _
  next p hp =>
    split_ifs with hd
    · exact .err _
    · rw [portOfField_eq_some.mp hp, not_not.mp hd]; exact h p

theorem Writes.of_host {k : HostPort → Decoded} (h : ∀ g, Writes (eventWord op (hostField g) 0 arg) (k g)) :
    Writes (eventWord op port dir arg) (hostOp port dir k) := by
  unfold hostOp
  split
  · exact .err _
  next g hg =>
    split_ifs with hd
    · exact .err _
    · rw [hostOfField_eq_some.mp hg, not_not.mp hd]; exact h g

theorem Writes.of_dir {allowed : DirField → Bool} {clean : Bool} {k : DirField → Instr}
    (h : clean = true → ∀ d, encode (k d) = .event (eventWord op port (dirFieldBits d) arg)) :
    Writes (eventWord op port dir arg) (dirOp dir allowed clean k) := by
  unfold dirOp
  split
  · exact .err _
  next d hd =>
    rw [dirOfField_eq_some.mp hd]
    split_ifs with hc
    · exact .instr (h hc d)
    · exact .err _
    · exact .err _

theorem Writes.of_arg {clean : Bool} {i : Instr} (h : clean = true → encode i = .event w) :
    Writes w (argOp clean i) := by
  cases clean
  · exact .err _
  · exact .instr (h rfl)

theorem Writes.of_agent {d : Decoded} (h : Writes w d) : Writes w (agentOp d) := by
  cases d with
  | instr i => exact h
  | err c => exact nofun
  | notAnEvent => exact nofun

theorem Writes.of_zero {i : Instr} (h : encode i = .event (eventWord op port dir 0)) :
    Writes (eventWord op port dir arg) (argOp (arg == 0) i) :=
  .of_arg fun hc => by rw [h, eq_of_beq hc]

end

/-- Words of one row differ in their operands. -/
theorem event_congr {op : BitVec 8} {port dir : BitVec 4} {a b : BitVec 16} (h : a = b) :
    Code.event (eventWord op port dir a) = .event (eventWord op port dir b) := by
  rw [h]

/-- Each row of the operand table: a word decodes only to the event that is written as the word. -/
theorem writes_decodeFields (op : BitVec 8) (port dir : BitVec 4) (arg : BitVec 16) :
    Writes (eventWord op port dir arg) (decodeFields op port dir arg) := by
  have hop : op = BitVec.ofNat 8 op.toNat := by simp
  unfold decodeFields
  generalize op.toNat = n at hop
  subst hop
  split
  -- OPEN, CLOSE, IRQ_MASK, IRQ_UNMASK, READ_FAULTS
  case h_1 | h_2 | h_16 | h_17 | h_18 => exact .of_noPort (.of_zero rfl)
  -- SET_TRX, CLEAR_TRX
  case h_3 | h_4 =>
    split
    · exact .err _
    next x hx =>
      rw [hostOfField_eq_some.mp hx]
      exact .of_dir fun hc d => event_congr (eq_of_beq hc).symm
  -- IS_READY
  case h_5 => exact .of_host fun g => .of_zero rfl
  -- CONFIG_LOOPBACK, SET_DMA
  case h_6 | h_9 =>
    split
    · exact .err _
    next x hx =>
      rw [portOfField_eq_some.mp hx]
      exact .of_dir fun hc d => event_congr (flagArg_of_unused (eq_of_beq hc))
  -- SET_BYPASS, MON_ENABLE
  case h_7 | h_20 => exact .of_noPort (.of_arg fun hc => event_congr (flagArg_of_unused (eq_of_beq hc)))
  -- CONFIG_BAUD
  case h_8 => exact .of_port fun p => .of_arg fun hc => event_congr (rateArg_of_unused (eq_of_beq hc))
  -- CONFIG_TIMEOUT
  case h_10 =>
    split
    · exact .err _
    next x hx =>
      rw [portOfField_eq_some.mp hx]
      exact .of_dir fun _ d => event_congr (timeoutArg_eq arg)
  -- RESET_PORT, READ_BYTE, IS_TX_READY, IS_RX_READY
  case h_11 | h_13 | h_14 | h_15 => exact .of_port fun p => .of_zero rfl
  -- WRITE_BYTE
  case h_12 => exact .of_port fun p => .of_arg fun hc => event_congr (byteArg_of_unused (eq_of_beq hc))
  -- CLEAR_FAULTS
  case h_19 => exact .of_noPort (.instr rfl)
  -- MON_CONFIG
  case h_21 => exact .of_noPort (.of_arg fun hc => event_congr (monConfigArg_of_unused (eq_of_beq hc)))
  -- MON_READ
  case h_22 =>
    split_ifs with hp
    · exact .err _
    · rw [not_not.mp hp]
      exact .of_dir fun hc d => event_congr (monReadArg_of_unused (eq_of_beq hc))
  -- LINE_IN
  case h_23 => exact .of_agent (.of_port fun p => .of_arg fun hc => event_congr (byteArg_of_unused (eq_of_beq hc)))
  -- LINE_OUT, LINE_XOFF, LINE_XON, RESTORE_FAULT, CORE_RX
  case h_24 | h_25 | h_26 | h_28 | h_29 => exact .of_agent (.of_port fun p => .of_zero rfl)
  -- TICK
  case h_27 =>
    refine .of_agent (.of_noPort ?_)
    split
    · exact .err _
    next a ha => rw [ackOfArg_eq_some.mp ha]; exact .instr rfl
  -- the reserved op codes
  case h_30 => exact .err _

/-- A word that decodes to an event is the word the encoder writes for it (30_encoding.md R71 to R74). -/
theorem encode_of_decodeEvent {w : Word32} {i : Instr} (h : decodeEvent w = .instr i) : encode i = .event w :=
  eventWord_fields w ▸ writes_decodeFields _ _ _ _ i h

/-- Settles O11, by evaluation of the decoder on the words. -/
theorem sampleWordsDecode : Obligations.SampleWordsDecode := by
  unfold Obligations.SampleWordsDecode
  decide

end Sys2Proof
end

section
/-!
PROOF. First bytes (30_encoding.md R64 to R68): the class of a byte by its place in TYPE_MAP, and the round trip
of the encoding, for bytes of a stream and for event words.
-/

namespace Sys2Proof.Machine

/-! ## The classes -/

/-- A range holds exactly the bytes that it gives a shape (30_encoding.md R66 (a)). -/
theorem has_iff_exists_maps {m : TypeMap} {b : Byte} {h : HostPort} :
    (m.get h).has b.toNat ↔ ∃ sh, m.maps b h sh := by
  constructor
  · intro has
    obtain ⟨sh, hsh⟩ := Option.ne_none_iff_exists'.mp (mt TypeRange.shapeOf_eq_none.mp (not_not_intro has))
    exact ⟨sh, TypeRange.shapeOf_eq_some.mp hsh⟩
  · exact fun ⟨sh, maps⟩ => maps.1

theorem classifyExt_escape (m : TypeMap) (h : HostPort) :
    classifyExt m (0xF0 + BitVec.ofNat 8 (portNum (hostPort h))) = .escape h := by
  cases h <;> rfl

/-- From External a mapped byte starts a frame: no escape is mapped (30_encoding.md R64, R66 (b)). -/
theorem classifyExt_eq_frameStart {m : TypeMap} (hm : m.Wf) {b : Byte} {h : HostPort} {sh : Shape} :
    classifyExt m b = .frameStart h sh ↔ m.maps b h sh := by
  constructor
  · intro hc
    unfold classifyExt at hc
    split_ifs at hc
    split at hc <;> cases hc
    next lookup => exact (TypeMap.lookup_eq_some hm).mp lookup
  · intro maps
    have plain := TypeMap.not_escape hm maps
    simp only [not_or] at plain
    obtain ⟨hFF, hF0, hF1, hF2⟩ := plain
    simp only [classifyExt, hFF, hF0, hF1, hF2, if_false, (TypeMap.lookup_eq_some hm).mpr maps]

/-- From External everything else is undefined (30_encoding.md R64). -/
theorem classifyExt_eq_undefined {m : TypeMap} {b : Byte} :
    classifyExt m b = .undefined ↔ ¬ isEscape b ∧ m.unmapped b := by
  rw [← TypeMap.lookup_eq_none]
  simp only [not_or]
  unfold classifyExt
  constructor
  · intro hc
    split_ifs at hc with hFF hF0 hF1 hF2
    split at hc <;> cases hc
    next lookup => exact ⟨⟨hFF, hF0, hF1, hF2⟩, lookup⟩
  · rintro ⟨⟨hFF, hF0, hF1, hF2⟩, lookup⟩
    simp only [hFF, hF0, hF1, hF2, if_false, lookup]

/-- From a host a type of its own range starts a frame (30_encoding.md R65). -/
theorem decodeFirstByteHost_of_maps {m : TypeMap} (hm : m.Wf) {b : Byte} {h : HostPort} {sh : Shape}
    (maps : m.maps b h sh) : decodeFirstByteHost m h b = typeInstr h sh .owner b := by
  simp only [decodeFirstByteHost, (TypeMap.lookup_eq_some hm).mpr maps, if_true]

/-- From a host everything else is undefined (30_encoding.md R65). -/
theorem decodeFirstByteHost_of_not_has {m : TypeMap} (hm : m.Wf) {b : Byte} {h : HostPort}
    (not_has : ¬ (m.get h).has b.toNat) : decodeFirstByteHost m h b = .undefinedFromHost h b := by
  obtain ⟨sh, lookup, -⟩ | ⟨-, undefined⟩ := classifyHost_cases m h b
  · exact absurd ((TypeMap.lookup_eq_some hm).mp lookup).1 not_has
  · exact undefined

/-! ## The rows of the first bytes -/

theorem encode_typeInstr (h : HostPort) (sh : Shape) (src : FrameSource) (b : Byte) :
    encode (typeInstr h sh src b) = .firstByte (src.port (hostPort h)) b := by
  cases h <;> cases sh <;> rfl

theorem wellFormed_typeInstr {m : TypeMap} {h : HostPort} {sh : Shape} {src : FrameSource} {b : Byte} :
    (typeInstr h sh src b).wellFormed m = true ↔ m.maps b h sh := by
  cases h <;> cases sh <;> exact decide_eq_true_iff

theorem encode_escapeInstr (h : HostPort) :
    encode (escapeInstr h) = .firstByte .ext (0xF0 + BitVec.ofNat 8 (portNum (hostPort h))) := by
  cases h <;> rfl

theorem wellFormed_escapeInstr (m : TypeMap) (h : HostPort) : (escapeInstr h).wellFormed m = true := by
  cases h <;> rfl

theorem wellFormed_undefinedFromExt {m : TypeMap} {b : Byte} :
    (Instr.undefinedFromExt b).wellFormed m = true ↔ ¬ isEscape b ∧ m.unmapped b := decide_eq_true_iff

theorem wellFormed_undefinedFromHost {m : TypeMap} {h : HostPort} {b : Byte} :
    (Instr.undefinedFromHost h b).wellFormed m = true ↔ ¬ (m.get h).has b.toNat := decide_eq_true_iff

/-! ## The round trip -/

/-- A byte of a stream decodes to a well-formed event that is written as the byte (30_encoding.md R64, R65). -/
theorem encode_decodeFirstByte {m : TypeMap} (hm : m.Wf) (p : Port) (b : Byte) :
    encode (decodeFirstByte m p b) = .firstByte p b ∧ (decodeFirstByte m p b).wellFormed m = true := by
  obtain rfl | ⟨h, rfl⟩ := ext_or_hostPort p
  · have named := classify_standsFor m .ext b
    change StandsFor (classifyExt m b) .ext b _ at named
    cases hc : classifyExt m b <;> rw [hc] at named
    case keepalive =>
      rw [named.2, eq_of_classifyExt_keepalive hc]
      exact ⟨rfl, rfl⟩
    case escape g =>
      rw [named.2, eq_of_classifyExt_escape hc]
      exact ⟨encode_escapeInstr g, wellFormed_escapeInstr m g⟩
    case frameStart g sh =>
      obtain ⟨-, hd⟩ | ⟨he, -⟩ := named
      · rw [hd]
        exact ⟨encode_typeInstr g sh .external b, wellFormed_typeInstr.mpr ((classifyExt_eq_frameStart hm).mp hc)⟩
      · exact absurd he.symm (hostPort_ne_ext g)
    case undefined =>
      obtain ⟨-, hd⟩ | ⟨g, he, -⟩ := named
      · rw [hd]
        exact ⟨rfl, wellFormed_undefinedFromExt.mpr (classifyExt_eq_undefined.mp hc)⟩
      · exact absurd he.symm (hostPort_ne_ext g)
  · rw [decodeFirstByte_hostPort]
    by_cases has : (m.get h).has b.toNat
    · obtain ⟨sh, maps⟩ := has_iff_exists_maps.mp has
      rw [decodeFirstByteHost_of_maps hm maps]
      exact ⟨encode_typeInstr h sh .owner b, wellFormed_typeInstr.mpr maps⟩
    · rw [decodeFirstByteHost_of_not_has hm has]
      exact ⟨rfl, wellFormed_undefinedFromHost.mpr has⟩

/-- The byte that a well-formed event is written as decodes to the event (30_encoding.md R64 to R68). -/
theorem decodeFirstByte_of_encode {m : TypeMap} (hm : m.Wf) {i : Instr} {p : Port} {b : Byte}
    (written : encode i = .firstByte p b) (wf : i.wellFormed m = true) : decodeFirstByte m p b = i := by
  obtain ⟨rfl, rfl, rfl⟩ | ⟨g, rfl, rfl, rfl⟩ | ⟨g, sh, src, rfl, rfl⟩ | ⟨rfl, rfl⟩ | ⟨g, rfl, rfl⟩ :=
    encode_firstByte_forms written
  · rfl
  · simp only [decodeFirstByte, decodeFirstByteExt, classifyExt_escape]
  · have maps := wellFormed_typeInstr.mp wf
    cases src with
    | external =>
      simp only [FrameSource.port, decodeFirstByte, decodeFirstByteExt, (classifyExt_eq_frameStart hm).mpr maps]
    | owner => exact (decodeFirstByte_hostPort m g b).trans (decodeFirstByteHost_of_maps hm maps)
  · simp only [decodeFirstByte, decodeFirstByteExt,
      classifyExt_eq_undefined.mpr (wellFormed_undefinedFromExt.mp wf)]
  · exact (decodeFirstByte_hostPort m g b).trans
      (decodeFirstByteHost_of_not_has hm (wellFormed_undefinedFromHost.mp wf))

/-- Settles O7: an event is written as a word or as a byte of a stream, and each is read back. -/
theorem encodedEventsDecodeToThemselves : Obligations.EncodedEventsDecodeToThemselves := by
  intro m i hm wf
  cases written : encode i with
  | event w => exact decodeEvent_of_encode written
  | firstByte p b => exact congrArg Decoded.instr (decodeFirstByte_of_encode hm written wf)

/-- Settles O8: by `encode_of_decodeEvent` for the words and `encode_decodeFirstByte` for the bytes. -/
theorem eachCodeHasOneMeaning : Obligations.EachCodeHasOneMeaning := by
  intro m x i hm decoded
  cases x with
  | event w => exact ⟨encode_of_decodeEvent decoded, nofun⟩
  | firstByte p b =>
    obtain rfl : decodeFirstByte m p b = i := Decoded.instr.inj decoded
    obtain ⟨written, wf⟩ := encode_decodeFirstByte hm p b
    exact ⟨written, fun _ _ _ => wf⟩

/-! ## The classes of a first byte, and their events -/

/-- Settles O9: each clause is the round trip of the byte's own row. -/
theorem firstBytesAreClassified : Obligations.FirstBytesAreClassified := by
  intro m b hm
  refine ⟨rfl, rfl, rfl, rfl, fun h sh maps => ⟨TypeMap.not_escape hm maps, ?_⟩, fun plain unmapped => ?_,
    fun h => ⟨fun sh maps => ?_, fun none => ?_⟩⟩
  · exact decodeFirstByte_of_encode hm (encode_typeInstr h sh .external b) (wellFormed_typeInstr.mpr maps)
  · exact decodeFirstByte_of_encode hm rfl (wellFormed_undefinedFromExt.mpr ⟨plain, unmapped⟩)
  · exact decodeFirstByte_of_encode hm (encode_typeInstr h sh .owner b) (wellFormed_typeInstr.mpr maps)
  · exact decodeFirstByte_of_encode hm rfl (wellFormed_undefinedFromHost.mpr fun has =>
      (has_iff_exists_maps.mp has).elim none)

/-- Settles O13: at a boundary by `exec_decodeFirstByte_of_atFirstByte`, and off it because an event of a class happens
only with its byte at hand (`exec_firstByte`). -/
theorem firstByteEventsAreCoreSteps : Obligations.FirstByteEventsAreCoreSteps := by
  refine fun s p b _ => ⟨exec_decodeFirstByte_of_atFirstByte, fun i written _ not_at_hand => ?_⟩
  obtain nothing | ⟨at_hand, -⟩ := exec_firstByte written s
  · exact nothing
  · exact absurd at_hand not_at_hand

end Sys2Proof.Machine
end

section
/-!
PROOF. The checks of 30_encoding.md R76 in their order: what decoding answers to a word is its first error, or an
event that returns the error itself, or a well-formed event. One rule for each check of the decoder, then one case for
each form of a row of the operand table (30_encoding.md R74).
-/

namespace Sys2Proof.Machine

/-! ## The fields of a word as numbers -/

theorem opOf_eq (w : Word32) : opOf w = (w.extractLsb' 24 8).toNat := by
  have := w.isLt
  simp only [opOf, BitVec.extractLsb'_toNat, Nat.shiftRight_eq_div_pow]
  omega

theorem portField_toNat (w : Word32) : (w.extractLsb' 20 4).toNat = w.toNat / 2 ^ 20 % 16 := by
  simp only [BitVec.extractLsb'_toNat, Nat.shiftRight_eq_div_pow]

theorem dirField_toNat (w : Word32) : (w.extractLsb' 16 4).toNat = w.toNat / 2 ^ 16 % 16 := by
  simp only [BitVec.extractLsb'_toNat, Nat.shiftRight_eq_div_pow]

theorem argField_toNat (w : Word32) : (w.extractLsb' 0 16).toNat = w.toNat % 2 ^ 16 := by
  simp only [BitVec.extractLsb'_toNat, Nat.shiftRight_zero]

/-! ## The first error of a row -/

/-- The error of a `dir` field, or else `e` (30_encoding.md R76). -/
def dirChecked (dc : DirColumn) (dir : BitVec 4) (e : Option ErrCode) : Option ErrCode :=
  if dc.allows dir.toNat = false then some .invalidDirection else e

/-- The error of a `port` field, or else `e` (30_encoding.md R76). -/
def portChecked (pc : PortColumn) (port : BitVec 4) (e : Option ErrCode) : Option ErrCode :=
  if pc.allows port.toNat = false then some .invalidPort else e

/-- The first error of the fields of a word whose op code has the row `row` (30_encoding.md R76). -/
def firstError (row : PortColumn × DirColumn × ArgColumn) (port dir : BitVec 4) (arg : BitVec 16) : Option ErrCode :=
  portChecked row.1 port (dirChecked row.2.1 dir (row.2.2.error arg.toNat))

theorem wordError_of_reserved {w : Word32} (h : operandRow (opOf w) = none) : wordError w = some .invalidOp := by
  simp only [wordError, h]

theorem wordError_of_row {w : Word32} {row : PortColumn × DirColumn × ArgColumn} (h : operandRow (opOf w) = some row) :
    wordError w = firstError row (w.extractLsb' 20 4) (w.extractLsb' 16 4) (w.extractLsb' 0 16) := by
  simp only [wordError, h, firstError, portChecked, dirChecked, portField_toNat, dirField_toNat, argField_toNat]

/-! ## The columns and the decoder's readers of a field -/

theorem any_allows (f : BitVec 4) : PortColumn.any.allows f.toNat = (portOfField f).isSome := by
  revert f; decide

theorem hosts_allows (f : BitVec 4) : PortColumn.hosts.allows f.toNat = (hostOfField f).isSome := by
  revert f; decide

theorem noPort_allows (f : BitVec 4) : PortColumn.noPort.allows f.toNat = decide (f = 0xF) := by
  revert f; decide

theorem noDir_allows (f : BitVec 4) : DirColumn.noDir.allows f.toNat = decide (f = 0) := by
  revert f; decide

theorem single_allows (f : BitVec 4) : DirColumn.single.allows f.toNat = (dirOfField f).any DirField.isSingle := by
  revert f; decide

theorem someDir_allows (f : BitVec 4) : DirColumn.someDir.allows f.toNat = (dirOfField f).any DirField.isSome := by
  revert f; decide

/-- The unused bits of `arg` are 0 exactly if its number fits the others. -/
theorem unused_beq_zero {n k : Nat} (x : BitVec (n + k)) : (x.extractLsb' k n == 0) = decide (x.toNat < 2 ^ k) := by
  have small : x.toNat / 2 ^ k < 2 ^ n :=
    Nat.div_lt_of_lt_mul (lt_of_lt_of_eq x.isLt (by rw [Nat.add_comm, Nat.pow_add]))
  rw [Bool.eq_iff_iff, beq_iff_eq, decide_eq_true_iff, ← BitVec.toNat_inj, BitVec.extractLsb'_toNat,
    Nat.shiftRight_eq_div_pow, Nat.mod_eq_of_lt small]
  simp [Nat.div_eq_zero_iff]

/-- The first error of an `arg` with unused bits, or else `e` (30_encoding.md R74, R76). -/
def argChecked (clean : Bool) (e : Option ErrCode) : Option ErrCode := if clean then e else some .invalidArg

theorem zero_error (arg : BitVec 16) : ArgColumn.zero.error arg.toNat = argChecked (arg == 0) none := by
  have hb : (arg == 0) = decide (arg.toNat = 0) := by
    rw [Bool.eq_iff_iff, beq_iff_eq, decide_eq_true_iff, ← BitVec.toNat_inj]; rfl
  simp only [ArgColumn.error, argChecked, hb, decide_eq_true_eq]

theorem oneBit_error (arg : BitVec 16) :
    ArgColumn.oneBit.error arg.toNat = argChecked (arg.extractLsb' 1 15 == 0) none := by
  simp only [ArgColumn.error, argChecked, unused_beq_zero (n := 15) (k := 1) arg, decide_eq_true_eq, Nat.lt_succ_iff,
    Nat.reducePow]

theorem byte_error (arg : BitVec 16) :
    ArgColumn.byte.error arg.toNat = argChecked (arg.extractLsb' 8 8 == 0) none := by
  simp only [ArgColumn.error, argChecked, unused_beq_zero (n := 8) (k := 8) arg, decide_eq_true_eq, Nat.lt_succ_iff,
    Nat.reducePow]

theorem rate_error (arg : BitVec 16) :
    ArgColumn.rate.error arg.toNat =
      argChecked (arg.extractLsb' 3 13 == 0) (ArgColumn.rate.error (arg.extractLsb' 0 3).toNat) := by
  rw [argChecked, unused_beq_zero (n := 13) (k := 3) arg]
  by_cases small : arg.toNat < 2 ^ 3
  · have low : (arg.extractLsb' 0 3).toNat = arg.toNat := by
      rw [BitVec.extractLsb'_toNat, Nat.shiftRight_zero, Nat.mod_eq_of_lt small]
    rw [decide_eq_true small, if_pos rfl, low]
  · rw [decide_eq_false small, ArgColumn.error, if_neg (by omega), if_neg (by omega)]; rfl

theorem timeout_error (arg : BitVec 16) :
    ArgColumn.timeout.error arg.toNat = if (arg.extractLsb' 0 14).toNat = 0 then some .invalidArg else none := by
  simp only [ArgColumn.error, BitVec.extractLsb'_toNat, Nat.shiftRight_zero]

theorem monMode_error (arg : BitVec 16) :
    ArgColumn.monMode.error arg.toNat =
      argChecked (arg.extractLsb' 4 12 == 0) (if (arg.extractLsb' 0 2).toNat ≤ 2 then none else some .invalidArg) := by
  simp only [ArgColumn.error, argChecked, unused_beq_zero (n := 12) (k := 4) arg, decide_eq_true_eq,
    BitVec.extractLsb'_toNat, Nat.shiftRight_zero, Nat.reducePow, Nat.lt_succ_iff, ite_and]

theorem monRead_error (arg : BitVec 16) :
    ArgColumn.monRead.error arg.toNat =
      argChecked (arg.extractLsb' 5 11 == 0)
        (if arg.getLsbD 4 = true ∧ arg.extractLsb' 0 4 ≠ 0 then some .invalidArg else none) := by
  have sel : arg.getLsbD 4 = true ↔ arg.toNat / 16 % 2 = 1 := by
    rw [BitVec.getLsbD, Nat.testBit_eq_decide_div_mod_eq, decide_eq_true_iff]
  have index : arg.extractLsb' 0 4 ≠ 0 ↔ arg.toNat % 16 ≠ 0 := by
    rw [Ne, ← BitVec.toNat_inj, BitVec.extractLsb'_toNat]; rfl
  have fits : arg.toNat ≤ 16 ↔ arg.toNat < 2 ^ 5 ∧ ¬ (arg.toNat / 16 % 2 = 1 ∧ arg.toNat % 16 ≠ 0) := by omega
  simp only [ArgColumn.error, argChecked, unused_beq_zero (n := 11) (k := 5) arg, decide_eq_true_eq, sel, index, fits,
    ite_and, ite_not]

theorem ack_error (arg : BitVec 16) :
    ArgColumn.ack.error arg.toNat = if (ackOfArg arg).isSome then none else some .invalidArg := by
  have small : arg.toNat ≤ 2 ↔ arg = 0 ∨ arg = 1 ∨ arg = 2 := by
    simp only [← BitVec.toNat_inj, BitVec.toNat_ofNat, BitVec.ofNat_eq_ofNat]; omega
  simp only [ArgColumn.error, small, ackOfArg]
  split_ifs <;> simp_all

/-! ## What decoding answers -/

/-- A decoding agrees with the first error of the word: a well-formed event where there is none, the error, or an event
that returns the error itself, as the relation `late` says (30_encoding.md R76; assumption log 6). -/
inductive Judged (m : TypeMap) (late : Instr → ErrCode → Prop) : Decoded → Option ErrCode → Prop
  | event {i : Instr} (wf : i.wellFormed m = true) : Judged m late (.instr i) none
  | rejected (c : ErrCode) : Judged m late (.err c) (some c)
  | returned {i : Instr} {c : ErrCode} (h : late i c) : Judged m late (.instr i) (some c)

section
variable {m : TypeMap} {late : Instr → ErrCode → Prop} {port dir : BitVec 4} {arg : BitVec 16} {e : Option ErrCode}

theorem Judged.of_port_refused {pc : PortColumn} (h : pc.allows port.toNat = false) :
    Judged m late (.err .invalidPort) (portChecked pc port e) := by
  rw [portChecked, if_pos h]; exact .rejected _

theorem Judged.of_port_allowed {pc : PortColumn} {d : Decoded} (allowed : pc.allows port.toNat = true)
    (h : Judged m late d e) : Judged m late d (portChecked pc port e) := by
  rw [portChecked, if_neg (by rw [allowed]; decide)]; exact h

theorem Judged.of_noPort {k : Decoded} (h : Judged m late k e) :
    Judged m late (noPortOp port dir k) (portChecked .noPort port (dirChecked .noDir dir e)) := by
  simp only [noPortOp, portChecked, dirChecked, noPort_allows, noDir_allows, decide_eq_false_iff_not]
  split_ifs
  · exact .rejected _
  · exact .rejected _
  · exact h

theorem Judged.of_port {k : Port → Decoded} (h : ∀ p, Judged m late (k p) e) :
    Judged m late (portOp port dir k) (portChecked .any port (dirChecked .noDir dir e)) := by
  simp only [portOp, portChecked, dirChecked, any_allows, noDir_allows, decide_eq_false_iff_not]
  cases portOfField port with
  | none => exact .rejected _
  | some p =>
    rw [Option.isSome_some, if_neg (by decide)]
    split_ifs
    · exact .rejected _
    · exact h p

theorem Judged.of_host {k : HostPort → Decoded} (h : ∀ g, Judged m late (k g) e) :
    Judged m late (hostOp port dir k) (portChecked .hosts port (dirChecked .noDir dir e)) := by
  simp only [hostOp, portChecked, dirChecked, hosts_allows, noDir_allows, decide_eq_false_iff_not]
  cases hostOfField port with
  | none => exact .rejected _
  | some g =>
    rw [Option.isSome_some, if_neg (by decide)]
    split_ifs
    · exact .rejected _
    · exact h g

/-- A direction that the row does not allow reaches the event, which returns the error (assumption log 6). -/
theorem Judged.of_dir {dc : DirColumn} {allowed : DirField → Bool} {clean : Bool} {k : DirField → Instr}
    (column : ∀ f : BitVec 4, dc.allows f.toNat = (dirOfField f).any allowed)
    (bad : ∀ d, allowed d = false → late (k d) .invalidDirection)
    (good : ∀ d, allowed d = true → Judged m late (.instr (k d)) e) :
    Judged m late (dirOp dir allowed clean k) (dirChecked dc dir (argChecked clean e)) := by
  simp only [dirOp, dirChecked, argChecked, column]
  cases dirOfField dir with
  | none => exact .rejected _
  | some d =>
    cases ha : allowed d <;> cases clean <;> simp only [Option.any_some, ha]
    · exact .rejected _
    · exact .returned (bad d ha)
    · exact .rejected _
    · exact good d ha

theorem Judged.of_arg {clean : Bool} {i : Instr} (h : Judged m late (.instr i) e) :
    Judged m late (argOp clean i) (argChecked clean e) := by
  cases clean
  · exact .rejected _
  · exact h

theorem Judged.of_zero {i : Instr} (wf : i.wellFormed m = true) :
    Judged m late (argOp (arg == 0) i) (ArgColumn.zero.error arg.toNat) := by
  rw [zero_error]; exact .of_arg (.event wf)

theorem Judged.of_flag {i : Instr} (wf : i.wellFormed m = true) :
    Judged m late (argOp (arg.extractLsb' 1 15 == 0) i) (ArgColumn.oneBit.error arg.toNat) := by
  rw [oneBit_error]; exact .of_arg (.event wf)

theorem Judged.of_byte {i : Instr} (wf : i.wellFormed m = true) :
    Judged m late (argOp (arg.extractLsb' 8 8 == 0) i) (ArgColumn.byte.error arg.toNat) := by
  rw [byte_error]; exact .of_arg (.event wf)

end

/-! ## The rows -/

/-- The event returns the error and does nothing else. -/
def ReturnsError (s : State) (i : Instr) (c : ErrCode) : Prop := exec i s = fail s c

/-- The rate indices 4 to 7 reach the event (40_port_fifo.md R89). -/
theorem judged_configBaud (s : State) (m : TypeMap) (p : Port) (r : BitVec 3) :
    Judged m (ReturnsError s) (.instr (.configBaud p r)) (ArgColumn.rate.error r.toNat) := by
  have run : exec (.configBaud p r) s = execConfigBaud p r s := rfl
  simp only [ArgColumn.error]
  split_ifs with low reserved
  · exact .event (decide_eq_true (by omega))
  · exact .returned (by rw [ReturnsError, run, execConfigBaud, dif_neg (by omega), if_pos reserved])
  · exact .returned (by rw [ReturnsError, run, execConfigBaud, dif_neg (by omega), if_neg reserved])

/-- A period of 0 reaches the event (43_timeout.md R145). -/
theorem judged_configTimeout (s : State) (m : TypeMap) (p : Port) {d : DirField} (hd : d.isSome = true) (en rs : Bool)
    (per : BitVec 14) :
    Judged m (ReturnsError s) (.instr (.configTimeout p d en rs per))
      (if per.toNat = 0 then some .invalidArg else none) := by
  have run : exec (.configTimeout p d en rs per) s = execConfigTimeout p d en rs per s := rfl
  have some_dir : d ≠ .none := by rintro rfl; cases hd
  split_ifs with zero
  · exact .returned (by rw [ReturnsError, run, execConfigTimeout, if_neg some_dir, if_pos zero])
  · exact .event (by rw [Instr.wellFormed, hd, Bool.true_and, decide_eq_true_iff]; omega)

/-- The mode 3 reaches the event (46_monitor.md R201). -/
theorem judged_monConfig (s : State) (m : TypeMap) (md : BitVec 2) (rolling mirror : Bool) :
    Judged m (ReturnsError s) (.instr (.monConfig md rolling mirror))
      (if md.toNat ≤ 2 then none else some .invalidArg) := by
  split_ifs with known
  · exact .event (decide_eq_true known)
  · obtain rfl : md = 3 := by revert md; decide
    exact .returned rfl

/-- An index other than 0 of a write pointer reaches the event (46_monitor.md R207). -/
theorem judged_monRead (s : State) (m : TypeMap) {d : DirField} (hd : d.isSingle = true) (sel : Bool) (i : BitVec 4) :
    Judged m (ReturnsError s) (.instr (.monRead d sel i))
      (if sel = true ∧ i ≠ 0 then some .invalidArg else none) := by
  split_ifs with pointer
  · obtain ⟨rfl, index⟩ := pointer
    have run : exec (.monRead d true i) s = execMonRead d true i s := rfl
    refine .returned ?_
    rw [ReturnsError, run, execMonRead]
    cases d with
    | tx => simp only [singleDir, monValue, if_true, if_pos index]
    | rx => simp only [singleDir, monValue, if_true, if_pos index]
    | none => cases hd
    | both => cases hd
  · refine .event ?_
    cases sel <;> simp_all [Instr.wellFormed]

theorem eq_none_of_isSome {d : DirField} (h : d.isSome = false) : d = .none := by
  cases d with
  | none => rfl
  | tx | rx | both => cases h

theorem eq_none_or_both_of_isSingle {d : DirField} (h : d.isSingle = false) : d = .none ∨ d = .both := by
  cases d with
  | none => exact .inl rfl
  | both => exact .inr rfl
  | tx | rx => cases h

/-- TX and RX are the directions of MON_READ and CONFIG_LOOPBACK (30_encoding.md R74). -/
theorem returnsError_monRead (s : State) {d : DirField} (h : d.isSingle = false) (sel : Bool) (i : BitVec 4) :
    ReturnsError s (.monRead d sel i) .invalidDirection := by
  obtain rfl | rfl := eq_none_or_both_of_isSingle h <;> rfl

theorem returnsError_configLoopback (s : State) {d : DirField} (h : d.isSingle = false) (p : Port) (en : Bool) :
    ReturnsError s (.configLoopback p d en) .invalidDirection := by
  obtain rfl | rfl := eq_none_or_both_of_isSingle h <;> rfl

/-- The op codes of the operand table (30_encoding.md R73). -/
def opCodes : List Nat :=
  [0x01, 0x02, 0x03, 0x04, 0x05, 0x06, 0x07, 0x08, 0x09, 0x0A, 0x0B, 0x10, 0x11, 0x12, 0x13, 0x20, 0x21, 0x22, 0x23,
    0x30, 0x31, 0x32, 0x80, 0x81, 0x82, 0x83, 0x84, 0x85, 0xC0]

theorem mem_opCodes_of_operandRow {n : Nat} {row : PortColumn × DirColumn × ArgColumn} (h : operandRow n = some row) :
    n ∈ opCodes := by
  by_contra unlisted
  simp only [opCodes, List.mem_cons, List.not_mem_nil, not_or] at unlisted
  simp [operandRow, unlisted] at h

/-- What decoding answers in each row of the operand table. A word of an agent without a caller is judged by the decoder
alone (30_encoding.md R74, R76). -/
theorem judged_decodeFields (s : State) (m : TypeMap) (op : BitVec 8) (port dir : BitVec 4) (arg : BitVec 16)
    {row : PortColumn × DirColumn × ArgColumn} (hrow : operandRow op.toNat = some row) :
    (isControlOp op.toNat = true ∧
      Judged m (ReturnsError s) (decodeFields op port dir arg) (firstError row port dir arg)) ∨
    (isControlOp op.toNat = false ∧ ∃ d, decodeFields op port dir arg = agentOp d ∧
      Judged m (fun _ _ => False) d (firstError row port dir arg)) := by
  unfold decodeFields
  generalize op.toNat = n at hrow
  split
  -- OPEN, CLOSE, IRQ_MASK, IRQ_UNMASK, READ_FAULTS
  case h_1 | h_2 | h_16 | h_17 | h_18 => cases hrow; exact .inl ⟨rfl, .of_noPort (.of_zero rfl)⟩
  -- SET_TRX, CLEAR_TRX
  case h_3 | h_4 =>
    cases hrow
    refine .inl ⟨rfl, ?_⟩
    split
    next hx => exact .of_port_refused (by rw [hosts_allows, hx]; rfl)
    next x hx =>
      refine .of_port_allowed (by rw [hosts_allows, hx]; rfl) ?_
      rw [zero_error]
      exact .of_dir someDir_allows (fun d hd => eq_none_of_isSome hd ▸ rfl) fun d hd => .event hd
  -- IS_READY
  case h_5 => cases hrow; exact .inl ⟨rfl, .of_host fun g => .of_zero rfl⟩
  -- CONFIG_LOOPBACK
  case h_6 =>
    cases hrow
    refine .inl ⟨rfl, ?_⟩
    split
    next hx => exact .of_port_refused (by rw [any_allows, hx]; rfl)
    next x hx =>
      refine .of_port_allowed (by rw [any_allows, hx]; rfl) ?_
      rw [oneBit_error]
      exact .of_dir single_allows (fun d hd => returnsError_configLoopback s hd x _) fun d hd => .event hd
  -- SET_BYPASS, MON_ENABLE
  case h_7 | h_20 => cases hrow; exact .inl ⟨rfl, .of_noPort (.of_flag rfl)⟩
  -- CONFIG_BAUD
  case h_8 =>
    cases hrow
    refine .inl ⟨rfl, .of_port fun p => ?_⟩
    rw [rate_error]
    exact .of_arg (judged_configBaud s m p _)
  -- SET_DMA
  case h_9 =>
    cases hrow
    refine .inl ⟨rfl, ?_⟩
    split
    next hx => exact .of_port_refused (by rw [any_allows, hx]; rfl)
    next x hx =>
      refine .of_port_allowed (by rw [any_allows, hx]; rfl) ?_
      rw [oneBit_error]
      exact .of_dir someDir_allows (fun d hd => eq_none_of_isSome hd ▸ rfl) fun d hd => .event hd
  -- CONFIG_TIMEOUT
  case h_10 =>
    cases hrow
    refine .inl ⟨rfl, ?_⟩
    split
    next hx => exact .of_port_refused (by rw [any_allows, hx]; rfl)
    next x hx =>
      refine .of_port_allowed (by rw [any_allows, hx]; rfl) ?_
      rw [timeout_error]
      exact Judged.of_dir (clean := true) someDir_allows (fun d hd => eq_none_of_isSome hd ▸ rfl) fun d hd =>
        judged_configTimeout s m x hd _ _ _
  -- RESET_PORT, READ_BYTE, IS_TX_READY, IS_RX_READY
  case h_11 | h_13 | h_14 | h_15 => cases hrow; exact .inl ⟨rfl, .of_port fun p => .of_zero rfl⟩
  -- WRITE_BYTE
  case h_12 => cases hrow; exact .inl ⟨rfl, .of_port fun p => .of_byte rfl⟩
  -- CLEAR_FAULTS
  case h_19 => cases hrow; exact .inl ⟨rfl, .of_noPort (.event rfl)⟩
  -- MON_CONFIG
  case h_21 =>
    cases hrow
    refine .inl ⟨rfl, .of_noPort ?_⟩
    rw [monMode_error]
    exact .of_arg (judged_monConfig s m _ _ _)
  -- MON_READ
  case h_22 =>
    cases hrow
    refine .inl ⟨rfl, ?_⟩
    split_ifs with hp
    · exact .of_port_refused (by rw [noPort_allows]; exact decide_eq_false hp)
    · refine .of_port_allowed (by rw [noPort_allows]; exact decide_eq_true (not_not.mp hp)) ?_
      rw [monRead_error]
      exact .of_dir single_allows (fun d hd => returnsError_monRead s hd _ _) fun d hd => judged_monRead s m hd _ _
  -- LINE_IN
  case h_23 => cases hrow; exact .inr ⟨rfl, _, rfl, .of_port fun p => .of_byte rfl⟩
  -- LINE_OUT, LINE_XOFF, LINE_XON, RESTORE_FAULT, CORE_RX
  case h_24 | h_25 | h_26 | h_28 | h_29 => cases hrow; exact .inr ⟨rfl, _, rfl, .of_port fun p => .of_zero rfl⟩
  -- TICK
  case h_27 =>
    cases hrow
    refine .inr ⟨rfl, _, rfl, .of_noPort ?_⟩
    rw [ack_error]
    cases ackOfArg arg with
    | none => exact .rejected _
    | some a => exact .event rfl
  -- a reserved op code has no row
  case h_30 =>
    have listed := mem_opCodes_of_operandRow hrow
    simp_all [opCodes]

theorem decodeFields_reserved {op : BitVec 8} (hrow : operandRow op.toNat = none) (port dir : BitVec 4)
    (arg : BitVec 16) : decodeFields op port dir arg = .err .invalidOp := by
  unfold decodeFields
  generalize op.toNat = n at hrow
  split
  case h_30 => rfl
  all_goals cases hrow

/-! ## The word -/

theorem runWord_err {w : Word32} {s : State} {c : ErrCode} (h : decodeEvent w = .err c) :
    runWord w s = .next { s with result := .err c } := by
  simp only [runWord, h]; rfl

theorem runWord_instr {w : Word32} {s : State} {i : Instr} (h : decodeEvent w = .instr i) : runWord w s = exec i s := by
  simp only [runWord, h, exec_resolve]

theorem runWord_notAnEvent {w : Word32} {s t : State} (h : decodeEvent w = .notAnEvent) : runWord w s ≠ .next t := by
  simp only [runWord, h]; exact nofun

/-- What decoding answers to a word whose op code has a row, and who is told (30_encoding.md R76). -/
theorem judged_decodeEvent (s : State) (m : TypeMap) {w : Word32} {row : PortColumn × DirColumn × ArgColumn}
    (hrow : operandRow (opOf w) = some row) :
    (isControlOp (opOf w) = true ∧ Judged m (ReturnsError s) (decodeEvent w) (wordError w)) ∨
    (isControlOp (opOf w) = false ∧ ∃ d, decodeEvent w = agentOp d ∧
      Judged m (fun _ _ => False) d (wordError w)) := by
  rw [wordError_of_row hrow]
  rw [opOf_eq] at hrow ⊢
  exact judged_decodeFields s m _ _ _ _ hrow

/-- Settles O10: a word with a reserved op code is rejected, and every other word is judged by its row. -/
theorem wordsAreJudgedInOrder : Obligations.WordsAreJudgedInOrder := by
  intro w s
  cases hrow : operandRow (opOf w) with
  | none =>
    have reserved : decodeEvent w = .err .invalidOp := decodeFields_reserved (by rw [← opOf_eq]; exact hrow) _ _ _
    have first := wordError_of_reserved hrow
    refine ⟨fun c hc _ => ?_, fun _ _ _ hne => absurd rfl hne, fun hnone => ?_⟩
    · obtain rfl := Option.some.inj (first.symm.trans hc)
      exact runWord_err reserved
    · exact absurd (first.symm.trans hnone) nofun
  | some row =>
    obtain ⟨control, judged⟩ | ⟨agent, d, decoded, judged⟩ := judged_decodeEvent s s.prm.typeMap hrow
    · refine ⟨fun c hc _ => ?_, fun _ _ no => absurd (control.symm.trans no) nofun, fun hnone => ?_⟩
      · rw [hc] at judged
        generalize hd : decodeEvent w = d at judged
        cases judged with
        | rejected => exact runWord_err hd
        | returned returns => exact (runWord_instr hd).trans returns
      · rw [hnone] at judged
        generalize hd : decodeEvent w = d at judged
        cases judged with
        | event wf => exact ⟨_, rfl, wf⟩
    · refine ⟨fun _ _ told => ?_, fun c hc _ _ t => ?_, fun hnone => ?_⟩
      · exact absurd told (by simp [agent])
      · rw [hc] at judged
        cases judged with
        | rejected => exact runWord_notAnEvent decoded
        | returned impossible => exact impossible.elim
      · rw [hnone] at judged
        cases judged with
        | event wf => exact ⟨_, decoded, wf⟩

end Sys2Proof.Machine
end

section
/-!
PROOF. The last byte of a header (42_framer.md R121, R123): the exact state that the step leaves, with the monitor's
reports, in the two ways it can go on.
-/

namespace Sys2Proof.Machine

/-! ## The step on a byte at hand -/

/-- Off a host's trailer the hub core's step is the one on the byte at hand (42_framer.md R129 (iii)). -/
theorem coreStep_of_atByte {s : State} {p : Port} {b : Byte} (h : AtByte s p b) (phase : (s.rxp p).phase ≠ .crc) :
    coreStep s p = byteStep s p b := by
  obtain ⟨gate, framed, head⟩ := h
  obtain ⟨rest, fifo⟩ := List.head?_eq_some_iff.mp head
  have byte : framedStep s p = byteStep s p b := by
    unfold framedStep
    split
    next trailer => exact absurd trailer phase
    next => rw [fifo]
  simp only [coreStep, gate, framed, if_false, Bool.false_eq_true, byte]

theorem coreStep_of_header {s : State} {p : Port} {b : Byte} (h : AtByte s p b) (phase : (s.rxp p).phase = .header) :
    coreStep s p = headerStep s p b := by
  rw [coreStep_of_atByte h (by rw [phase]; decide), byteStep, phase]

/-- The last byte of a header is taken exactly if the header fits and the path is free (42_framer.md R121). -/
theorem headerStep_of_last {s : State} {p : Port} (b : Byte)
    (last : (s.rxp p).hdr.length + 1 = hdrLen (s.rxp p).shape) :
    headerStep s p b = if s.headerFits p = true then some (headerLast s p b) else none := by
  simp only [headerStep, last, lt_irrefl, if_false, true_and]

/-! ## What an enabled step leaves -/

/-- A state that differs from `s` as a step of the hub core without a fault may. -/
theorem withResult_of_coreFrame {s u : State} (frame : CoreFrame s u) (faults : SameFaults s u) (r : Result) :
    u.withResult r = { s with ports := u.ports, extOwner := u.extOwner, mon := u.mon, result := r } := by
  obtain ⟨prm, schedule, bypassMode, pg, xoffPollCount, now, irqMasked, -⟩ := frame
  obtain ⟨bitmap, time⟩ := faults
  cases s; cases u
  simp only at *
  subst prm schedule bypassMode pg xoffPollCount now irqMasked bitmap time
  rfl

@[simp] theorem headerForward_mon (s : State) (p : Port) (b : Byte) : (headerForward s p b).mon = s.mon := by
  unfold headerForward
  dsimp only
  split <;> simp

theorem endUncheckedFrame_of_trailer {s : State} {p : Port} (h : s.endsAtPayload p = false) (d : Port) (n : Word16) :
    endUncheckedFrame s p d n = s := by
  rw [endUncheckedFrame, h]; rfl

theorem endUncheckedFrame_of_ends {s : State} {p : Port} (h : s.endsAtPayload p = true) (d : Port) (n : Word16) :
    endUncheckedFrame s p d n = endEvent s .rx (frameEvent (oneHot d) n) none := by
  rw [endUncheckedFrame, if_pos h]

/-- The monitor's reports of a complete header `l` with payload length `n` (46_monitor.md R202). -/
def Monitor.headerSeen (m : Monitor) (p : Port) (b : Byte) (l : List Byte) (n : Nat) : Monitor :=
  if p = .ext then (m.tap .rx b false).latched .rx n else (m.tapList .tx true l).latched .tx n

theorem Monitor.headerSeen_monEnabled (m : Monitor) (p : Port) (b : Byte) (l : List Byte) (n : Nat) :
    (m.headerSeen p b l n).monEnabled = m.monEnabled := by
  unfold Monitor.headerSeen; split <;> simp

theorem headerTaps_eq (s : State) (p : Port) (b : Byte) (l : List Byte) :
    headerTaps s p b l = s.setMon (observed s fun m => m.headerSeen p b l (s.rxp p).remain) := by
  obtain rfl | ⟨h, rfl⟩ := ext_or_hostPort p
  · have reports := observed_setMon s _ (fun m => m.latched .rx (s.rxp .ext).remain) fun m =>
      m.tap_monEnabled .rx b false
    rw [headerTaps, tap_eq, latchLen_eq, reports]; rfl
  · have host : headerTaps s (hostPort h) b l = latchLen (tapHeader s .tx l) .tx (s.rxp (hostPort h)).remain := by
      cases h <;> rfl
    have reports := observed_setMon s _ (fun m => m.latched .tx (s.rxp (hostPort h)).remain) fun m =>
      m.tapList_monEnabled .tx l true
    simp only [host, tapHeader_eq, latchLen_eq, Monitor.headerSeen, hostPort_ne_ext, if_false, ← reports]; rfl

/-- The end of a frame is reported after the reports `f` of the same step (46_monitor.md R202). -/
theorem endEvent_completeFrame_mon {s u : State} {f : Monitor → Monitor} (mon : u.mon = observed s f)
    (keeps : ∀ m, (f m).monEnabled = m.monEnabled) (bypassMode : u.bypassMode = s.bypassMode) (p : Port) (d : Dir)
    (r : PktInfo) (crc : Option Word16) :
    (endEvent (completeFrame u p) d r crc).mon = observed s fun m => (f m).endEvent d r crc := by
  have after : observed (completeFrame u p) (fun m => m.endEvent d r crc) =
      observed (s.setMon (observed s f)) fun m => m.endEvent d r crc :=
    observed_congr _ ((completeFrame_mon u p).trans mon) ((completeFrame_bypassMode u p).trans bypassMode)
  rw [endEvent_eq]
  exact after.trans (observed_setMon s f _ keeps)

/-- The state after the last header byte, before the parser goes on (42_framer.md R121). -/
def headerWritten (s : State) (p : Port) (b : Byte) : State :=
  headerTaps (headerForward s p b) p b ((s.rxp p).hdr ++ [b])

section
variable {s : State} {p : Port} {b : Byte} {l : List Byte} {n : Nat}

theorem coreFrame_headerWritten (s : State) (p : Port) (b : Byte) : CoreFrame s (headerWritten s p b) :=
  (coreFrame_headerForward s p b).trans (coreFrame_headerTaps _ _ _ _)

theorem sameFaults_headerWritten (s : State) (p : Port) (b : Byte) : SameFaults s (headerWritten s p b) :=
  (sameFaults_headerForward s p b).trans (sameFaults_headerTaps _ _ _ _)

theorem headerWritten_extOwner (s : State) (p : Port) (b : Byte) :
    (headerWritten s p b).extOwner = if (s.rxp p).dest = .ext then asHost p else s.extOwner := by
  rw [headerWritten, headerTaps_extOwner, headerForward_extOwner]

theorem framePorts_headerWritten (bytes : (s.rxp p).hdr ++ [b] = l) (length : payloadLength (s.rxp p).shape l = n) :
    FramePorts s (headerWritten s p b) p (some (s.rxp p).dest) l
      { s.rxp p with crc := crc16 l, remain := n, hdr := [] } (restartedTimers s p (some (s.rxp p).dest)) := by
  subst bytes length
  exact (framePorts_headerForward s p b).congr fun q => headerTaps_port _ _ _ _ q

theorem headerWritten_mon (bytes : (s.rxp p).hdr ++ [b] = l) (length : payloadLength (s.rxp p).shape l = n) :
    (headerWritten s p b).mon = observed s fun m => m.headerSeen p b l n := by
  have remain : ((headerForward s p b).rxp p).remain = n := by
    rw [(framePorts_headerForward s p b).rxp p, if_pos rfl, bytes]; exact length
  rw [headerWritten, bytes, headerTaps_eq, remain]
  exact observed_congr (t := headerForward s p b) (fun m => m.headerSeen p b l n) (headerForward_mon s p b)
    (coreFrame_headerForward s p b).bypassMode

theorem headerLast_eq (bytes : (s.rxp p).hdr ++ [b] = l) (length : payloadLength (s.rxp p).shape l = n) :
    headerLast s p b =
      if 0 < n then setPhase (headerWritten s p b) p .payload
      else endUncheckedFrame (afterPayload (headerWritten s p b) p) p (s.rxp p).dest 0 := by
  subst bytes length; rfl

/-- The parser goes on to the payload or to the trailer (42_framer.md R123). -/
theorem headerLast_of_more (bytes : (s.rxp p).hdr ++ [b] = l) (length : payloadLength (s.rxp p).shape l = n)
    (more : 1 ≤ n ∨ s.endsAtPayload p = false) :
    headerLast s p b = setPhase (headerWritten s p b) p (if 1 ≤ n then .payload else .crc) := by
  rw [headerLast_eq bytes length]
  by_cases payload : 1 ≤ n
  · rw [if_pos (Nat.lt_of_succ_le payload), if_pos payload]
  · have trailer : (headerWritten s p b).endsAtPayload p = false :=
      (endsAtPayload_congr (coreFrame_headerWritten s p b).prm p).trans (more.resolve_left payload)
    rw [if_neg (by omega), if_neg payload, afterPayload_of_trailer trailer]
    exact endUncheckedFrame_of_trailer (s := setPhase (headerWritten s p b) p .crc) trailer _ _

/-- A frame from External without payload and trailer ends (42_framer.md R123). -/
theorem headerLast_of_end (bytes : (s.rxp p).hdr ++ [b] = l) (length : payloadLength (s.rxp p).shape l = 0)
    (ends : s.endsAtPayload p = true) :
    headerLast s p b =
      endEvent (completeFrame (headerWritten s p b) p) .rx (frameEvent (oneHot (s.rxp p).dest) 0) none := by
  have ends_here : (headerWritten s p b).endsAtPayload p = true :=
    (endsAtPayload_congr (coreFrame_headerWritten s p b).prm p).trans ends
  rw [headerLast_eq bytes length, if_neg (lt_irrefl 0), afterPayload_of_ends ends_here]
  exact endUncheckedFrame_of_ends ((endsAtPayload_congr (completeFrame_prm _ p) p).trans ends_here) _ _

end

/-! ## The two outcomes -/

/-- What the step on the last byte of a header leaves in either outcome (42_framer.md R121). -/
theorem headerLast_leaves (s : State) (p : Port) (b : Byte) :
    CoreFrame s (headerLast s p b) ∧ SameFaults s (headerLast s p b) ∧
    (headerLast s p b).extOwner = if (s.rxp p).dest = .ext then asHost p else s.extOwner := by
  have frame := coreFrame_headerWritten s p b
  have faults := sameFaults_headerWritten s p b
  have owner := headerWritten_extOwner s p b
  by_cases more : 1 ≤ payloadLength (s.rxp p).shape ((s.rxp p).hdr ++ [b]) ∨ s.endsAtPayload p = false
  · rw [headerLast_of_more rfl rfl more]
    exact ⟨frame.trans (coreFrame_setParser _ _ _), faults, owner⟩
  · obtain ⟨none, ends⟩ := not_or.mp more
    replace ends := eq_true_of_ne_false ends
    rw [headerLast_of_end rfl (by omega) ends]
    obtain ⟨rfl, -⟩ := eq_ext_of_endsAtPayload ends
    refine ⟨(frame.trans (coreFrame_completeFrame _ _)).trans (coreFrame_endEvent _ _ _ _),
      faults.trans ⟨by simp, by simp⟩, ?_⟩
    rw [endEvent_extOwner, completeFrame_extOwner, if_pos rfl, owner]

/-- Settles O44: the step is enabled exactly by `headerFits_iff`, and goes on by `headerLast_of_more` or
`headerLast_of_end`. -/
theorem completeHeadersAreForwarded : Obligations.CompleteHeadersAreForwarded := by
  refine ⟨⟨rfl, rfl, rfl, fun _ _ _ _ _ => rfl, fun _ _ _ _ => rfl, fun _ _ _ _ _ _ => rfl⟩, ?_⟩
  intro s p d b l n at_hand phase last dest bytes length
  subst dest
  have step := (coreStep_of_header at_hand phase).trans (headerStep_of_last b last)
  have written := framePorts_headerWritten bytes length
  refine ⟨fun room free => ⟨(headerLast s p b).withResult .none, ?_, ?_, fun more => ?_, fun ended => ?_⟩,
    fun blocked => ?_⟩
  · rw [exec_coreRx, step, if_pos ((headerFits_iff s p).mpr ⟨room, free⟩)]; rfl
  · obtain ⟨frame, faults, owner⟩ := headerLast_leaves s p b
    rw [withResult_of_coreFrame frame faults, owner]
  · have more' : 1 ≤ n ∨ s.endsAtPayload p = false :=
      more.imp_right fun trailer => by simpa [State.endsAtPayload, or_iff_not_imp_left, asHost_eq_none] using trailer
    rw [headerLast_of_more bytes length more']
    exact ⟨headerWritten_mon bytes length, written.setPhase _⟩
  · obtain ⟨rfl, rfl, trailer⟩ := ended
    have ends : s.endsAtPayload .ext = true := by simp [State.endsAtPayload, asHost, trailer]
    have frame := coreFrame_headerWritten s .ext b
    rw [headerLast_of_end bytes length ends]
    exact ⟨endEvent_completeFrame_mon (headerWritten_mon bytes length) (fun m => m.headerSeen_monEnabled .ext b l 0)
      frame.bypassMode .ext _ _ _, (written.complete rfl frame.prm).congr fun q => endEvent_port _ _ _ _ q⟩
  · have unfit : ¬ s.headerFits p = true := fun fits => by
      obtain ⟨room, free⟩ := (headerFits_iff s p).mp fits
      exact blocked.elim (absurd room) fun ⟨toExt, owned⟩ => owned (free toExt)
    rw [exec_coreRx, step, if_neg unfit]; rfl

end Sys2Proof.Machine
end

section
/-!
SUPPORT. The port and byte-stream events (40_port_fifo.md) as equations: what a byte arriving on a line leaves in each
of the three cases, when WRITE_BYTE and LINE_OUT act, and where the byte that LINE_OUT takes goes.
-/

namespace Sys2Proof.Machine

/-! ## A byte into and out of an RX FIFO -/

/-- IDLE loses the byte without a record (40_port_fifo.md R91). -/
theorem lineInject_of_idle {s : State} (idle : s.pgState = .idle) (p : Port) (b : Byte) : lineInject s p b = s :=
  if_pos idle

/-- With room the byte is stored and counted, and the hub's own XOFF follows (40_port_fifo.md R91, 45_flowcontrol.md
R189). -/
theorem lineInject_of_room {s : State} {p : Port} (awake : s.pgState ≠ .idle)
    (room : (s.rxFifo p).length + 1 ≤ s.prm.fifoDepth) (b : Byte) :
    lineInject s p b =
      s.setPort p { s.port p with
        rxFifo := s.rxFifo p ++ [b]
        rxByteCount := s.inc (s.port p).rxByteCount
        xoffAsserted := xoffLevel s.prm (s.port p).xoffAsserted (s.prm.fifoDepth - ((s.rxFifo p).length + 1)) } := by
  rw [lineInject, if_neg awake, if_pos ((s.le_avail _ (Nat.le_refl 1)).mpr room)]
  simp [fcUpdate, storeRx, State.avail, State.rxFifo]

/-- A full FIFO loses the byte and marks the overrun (40_port_fifo.md R92). -/
theorem lineInject_of_full {s : State} {p : Port} (awake : s.pgState ≠ .idle)
    (full : s.prm.fifoDepth ≤ (s.rxFifo p).length) (b : Byte) :
    lineInject s p b = s.setPort p { s.port p with rxOverrun := true } := by
  have no_room : ¬ 1 ≤ s.avail (s.rxFifo p) := by rw [State.avail]; omega
  rw [lineInject, if_neg awake, if_neg no_room, markOverrun]

/-- No byte on a line reads what the last event returned. -/
theorem lineInject_withResult (s : State) (r : Result) (p : Port) (b : Byte) :
    lineInject (s.withResult r) p b = (lineInject s p b).withResult r := by
  simp only [lineInject, apply_ite (fun t : State => t.withResult r)]
  rfl

/-- A byte arriving on the line of `p` neither reads nor writes the count of the bytes that `p` has sent. -/
theorem lineInject_setTxByteCount (s : State) (p : Port) (b : Byte) (n : Nat) :
    lineInject (s.setPort p { s.port p with txByteCount := n }) p b =
      (lineInject s p b).setPort p { (lineInject s p b).port p with txByteCount := n } := by
  by_cases idle : s.pgState = .idle
  · rw [lineInject_of_idle idle, lineInject_of_idle (by exact idle)]
  · by_cases room : (s.rxFifo p).length + 1 ≤ s.prm.fifoDepth
    · rw [lineInject_of_room idle room, lineInject_of_room (by exact idle) (by simpa [State.rxFifo] using room)]
      simp [State.inc, State.rxFifo]
    · have full : s.prm.fifoDepth ≤ (s.rxFifo p).length := by omega
      rw [lineInject_of_full idle full, lineInject_of_full (by exact idle) (by simpa [State.rxFifo] using full)]
      simp

/-- The byte at the head is taken, and the hub's own XOFF follows (42_framer.md introduction, 45_flowcontrol.md R189). -/
theorem consume_eq_setPort (s : State) (p : Port) :
    consume s p =
      s.setPort p { s.port p with
        rxFifo := (s.rxFifo p).tail
        xoffAsserted := xoffLevel s.prm (s.port p).xoffAsserted (s.avail (s.rxFifo p).tail) } := by
  simp [consume, fcUpdate, State.setRxFifo, State.avail, State.rxFifo]

/-! ## A byte into and out of a TX FIFO -/

theorem State.txReady_iff (s : State) (p : Port) : s.txReady p = true ↔ s.pgState ≠ .idle ∧ Room s p 1 := by
  simp only [State.txReady, State.gateOpen, Bool.and_eq_true, decide_eq_true_eq, s.le_avail _ (Nat.le_refl 1)]

theorem State.lineOutEnabled_iff (s : State) (p : Port) :
    s.lineOutEnabled p = true ↔
      s.pgState ≠ .idle ∧ s.txFifo p ≠ [] ∧ (s.port p).xoffDetected = false ∧ (s.port p).sleepReq = false := by
  simp only [State.lineOutEnabled, State.gateOpen, Bool.and_eq_true, Bool.not_eq_true', decide_eq_true_eq,
    Nat.one_le_iff_ne_zero, ne_eq, List.length_eq_zero_iff, and_assoc]

/-- WRITE_BYTE takes the byte if it is ready to, and returns `Ok` either way (40_port_fifo.md R85). -/
theorem exec_writeByte (s : State) (p : Port) (b : Byte) :
    exec (.writeByte p b) s = .next ((if s.txReady p then s.pushTx p b else s).withResult .ok) := rfl

theorem exec_lineIn (s : State) (p : Port) (b : Byte) :
    exec (.lineIn p b) s = .next ((lineInject s p b).withResult .none) := rfl

/-- An enabled LINE_OUT takes the head of the FIFO and sends it by the wiring (40_port_fifo.md R93). -/
theorem exec_lineOut_of_enabled {s : State} {p : Port} {b : Byte} {rest : List Byte}
    (enabled : s.lineOutEnabled p = true) (head : s.txFifo p = b :: rest) :
    exec (.lineOut p) s = .next ((wireByte (transmit s p) p b).withResult (.left b (s.port p).loop)) := by
  change execLineOut p s = _
  rw [execLineOut, if_pos enabled, head]
  rfl

theorem exec_lineOut_of_not_enabled {s : State} {p : Port} (blocked : ¬ s.lineOutEnabled p = true) :
    exec (.lineOut p) s = .next (s.withResult .notEnabled) :=
  if_neg blocked

/-- Taking the head of the TX FIFO of `p`, and counting it, leaves the wiring of `p`. -/
theorem transmit_port_loop (s : State) (p : Port) : ((transmit s p).port p).loop = (s.port p).loop := by
  rw [port_transmit, if_pos rfl]

theorem wireByte_of_off {s : State} {p : Port} (unwired : (s.port p).loop = .off) (b : Byte) : wireByte s p b = s := by
  rw [wireByte, unwired]

/-- A wired byte arrives on the line of the port it is wired to (40_port_fifo.md R96). -/
theorem wireByte_of_loopsInto {s : State} {p q : Port} (loops : LoopsInto s p q) (b : Byte) :
    wireByte s p b = lineInject s q b := by
  obtain ⟨self, rfl⟩ | ⟨ext, rfl⟩ := loops
  · rw [wireByte, self]
  · rw [wireByte, ext]

/-- An enabled LINE_OUT of a wired port puts the head into the RX FIFO it is wired to (40_port_fifo.md R93, R96). -/
theorem exec_lineOut_of_loopsInto {s : State} {p q : Port} {b : Byte} {rest : List Byte}
    (enabled : s.lineOutEnabled p = true) (head : s.txFifo p = b :: rest) (loops : LoopsInto s p q) :
    exec (.lineOut p) s = .next ((lineInject (transmit s p) q b).withResult (.left b (s.port p).loop)) := by
  have wired : LoopsInto (transmit s p) p q := by rwa [LoopsInto, transmit_port_loop]
  rw [exec_lineOut_of_enabled enabled head, wireByte_of_loopsInto wired]

/-- Of a byte that goes through an empty TX FIFO only the count stays. -/
theorem transmit_pushTx_of_empty {s : State} {p : Port} (empty : s.txFifo p = []) (b : Byte) :
    transmit (s.pushTx p b) p = s.setPort p { s.port p with txByteCount := s.inc (s.port p).txByteCount } := by
  have pushed : s.pushTx p b = s.setPort p { s.port p with txFifo := [b] } := by
    rw [State.pushTx, State.pushAllTx, State.setTxFifo, empty, List.nil_append]
  rw [pushed, transmit, State.setPort_setPort, State.txFifo, State.port_setPort_self, List.tail_cons, ← empty]
  rfl

end Sys2Proof.Machine
end

section
/-!
PROOF. The statements of the port and byte-stream family (40_port_fifo.md R85 to R97): the manual FIFO access, the port
configuration, the line events and the loopback.
-/

namespace Sys2Proof.Machine

/-- Settles O22: the two directions that select a wiring, and the two that select none. -/
theorem configLoopbackSetsTheWiring : Obligations.ConfigLoopbackSetsTheWiring := by
  intro s p en
  refine ⟨?_, ?_⟩
  · rintro d (rfl | rfl) <;> rfl
  · rintro d w (⟨rfl, rfl⟩ | ⟨rfl, rfl⟩) <;> rfl

/-- A direction field covers TX, or RX, as the rules write it (40_port_fifo.md R90). -/
theorem covers_eq_decide (d : DirField) :
    covers d .tx = decide (d = .tx ∨ d = .both) ∧ covers d .rx = decide (d = .rx ∨ d = .both) := by
  cases d <;> exact ⟨rfl, rfl⟩

/-- Settles O23: the rate indices in the three ranges of R89, and the directions of R90. -/
theorem baudAndDmaAreConfigured : Obligations.BaudAndDmaAreConfigured := by
  intro s p r d en
  have baud : exec (.configBaud p r) s = execConfigBaud p r s := rfl
  have dma : exec (.setDma p d en) s = execSetDma p d en s := rfl
  refine ⟨fun k rate => ?_, fun reserved => ?_, fun unused => ?_, fun named => ?_, fun none => ?_⟩
  · have index : (⟨r.toNat, rate ▸ k.isLt⟩ : Fin 4) = k := Fin.ext rate
    rw [baud, execConfigBaud, dif_pos (rate ▸ k.isLt), index]
    rfl
  · rw [baud, execConfigBaud, dif_neg (by omega), if_pos (by omega)]
    rfl
  · rw [baud, execConfigBaud, dif_neg (by omega), if_neg (by omega)]
    rfl
  · obtain ⟨tx, rx⟩ := covers_eq_decide d
    rw [dma, execSetDma, if_neg named, tx, rx]
    simp only [decide_eq_true_eq]
    rfl
  · rw [dma, execSetDma, if_pos none]
    rfl

/-- Settles O25: `txReady` is the condition of the rule. -/
theorem writeByteIsTakenWhenReady : Obligations.WriteByteIsTakenWhenReady := by
  intro s p b
  refine ⟨fun awake room => ?_, fun blocked => ?_⟩
  · rw [exec_writeByte, if_pos ((s.txReady_iff p).mpr ⟨awake, room⟩)]
    rfl
  · have not_ready : ¬ s.txReady p = true := fun ready => by
      obtain ⟨awake, room⟩ := (s.txReady_iff p).mp ready
      exact blocked.elim awake fun full => full room
    rw [exec_writeByte, if_neg not_ready]
    rfl

/-- Settles O26: READ_BYTE by the FIFO's head, the two polls by the conditions they answer. -/
theorem fifosAreReadAndPolled : Obligations.FifosAreReadAndPolled := by
  intro s p
  have read : exec (.readByte p) s = execReadByte p s := rfl
  refine ⟨fun b rest fifo => ?_, fun empty => ?_, ?_, ?_⟩
  · rw [read, execReadByte, fifo, consume_eq_setPort, fifo]
    rfl
  · rw [read, execReadByte, empty]
    rfl
  · have ready : s.txReady p = decide (s.pgState ≠ .idle ∧ 1 ≤ s.prm.fifoDepth - (s.txFifo p).length) :=
      (Bool.decide_and _ _).symm
    change execIsTxReady p s = _
    rw [execIsTxReady, bitValue, ready]
    simp only [decide_eq_true_eq]
    rfl
  · change execIsRxReady p s = _
    rw [execIsRxReady, bitValue, State.rxReady]
    simp only [decide_eq_true_eq]
    rfl

/-- Settles O27, by the three cases of a byte on the line. -/
theorem lineInStoresOrLoses : Obligations.LineInStoresOrLoses := by
  intro s p b
  refine ⟨fun idle => ?_, fun awake room => ?_, fun awake full => ?_⟩
  · rw [exec_lineIn, lineInject_of_idle idle]; rfl
  · rw [exec_lineIn, lineInject_of_room awake room]; rfl
  · rw [exec_lineIn, lineInject_of_full awake full]; rfl

/-- Settles O28: the state after the head is taken is `transmit s p`, and the wiring decides what happens to it. -/
theorem lineOutSendsTheHead : Obligations.LineOutSendsTheHead := by
  intro s p
  refine ⟨fun b rest awake fifo no_xoff no_sleep => ?_, fun blocked => ?_⟩
  · have enabled : s.lineOutEnabled p = true :=
      (s.lineOutEnabled_iff p).mpr ⟨awake, by simp [fifo], no_xoff, no_sleep⟩
    have sent : s.setPort p { s.port p with
        txFifo := rest, txByteCount := ((s.port p).txByteCount + 1) % 2 ^ s.prm.cntWidth } = transmit s p := by
      rw [transmit, fifo]; rfl
    rw [sent]
    refine ⟨fun unwired => ?_, fun q wired => ⟨_, exec_lineIn _ q b, ?_⟩⟩
    · rw [exec_lineOut_of_enabled enabled fifo, wireByte_of_off ((transmit_port_loop s p).trans unwired), unwired]
      rfl
    · have loops : LoopsInto s p q := wired.imp_left fun ⟨self, here⟩ => ⟨self, here.symm⟩
      rw [exec_lineOut_of_loopsInto enabled fifo loops]
      rfl
  · have not_enabled : ¬ s.lineOutEnabled p = true := fun enabled => by
      obtain ⟨awake, waiting, no_xoff, no_sleep⟩ := (s.lineOutEnabled_iff p).mp enabled
      obtain idle | empty | xoff | sleep := blocked
      · exact awake idle
      · exact waiting empty
      · exact Bool.false_ne_true (no_xoff.symm.trans xoff)
      · exact Bool.false_ne_true (no_sleep.symm.trans sleep)
    exact exec_lineOut_of_not_enabled not_enabled

/-- Settles O29: the byte goes through the empty TX FIFO and leaves only its count (`transmit_pushTx_of_empty`), which
the arrival of the byte does not touch (`lineInject_setTxByteCount`). -/
theorem loopbackSendsAsTheHost : Obligations.LoopbackSendsAsTheHost := by
  intro s u v p b wf awake self no_xoff no_sleep empty sent received
  have room : Room s p 1 := by
    have depth := wf.1
    rw [Room, empty, List.length_nil]
    omega
  have write : exec (.writeByte p b) s = .next ((s.pushTx p b).withResult .ok) := by
    rw [exec_writeByte, if_pos ((s.txReady_iff p).mpr ⟨awake, room⟩)]
  have pushed : ((s.pushTx p b).withResult .ok).port p = { s.port p with txFifo := [b] } := by
    rw [State.withResult_port, State.port_pushTx, if_pos rfl, empty, List.nil_append]
  have fifo : ((s.pushTx p b).withResult .ok).txFifo p = [b] := by rw [State.txFifo, pushed]
  have loop : (((s.pushTx p b).withResult .ok).port p).loop = .selfRx := by rw [pushed]; exact self
  have enabled : ((s.pushTx p b).withResult .ok).lineOutEnabled p = true := by
    rw [State.lineOutEnabled_iff, fifo, pushed]
    exact ⟨awake, List.cons_ne_nil b [], no_xoff, no_sleep⟩
  have line : exec (.lineOut p) ((s.pushTx p b).withResult .ok) =
      .next ((lineInject (transmit (s.pushTx p b) p) p b).withResult (.left b .selfRx)) := by
    rw [exec_lineOut_of_loopsInto enabled fifo (.inl ⟨loop, rfl⟩), loop]
    change Host.Outcome.next ((lineInject ((transmit (s.pushTx p b) p).withResult .ok) p b).withResult _) = _
    rw [lineInject_withResult]
    rfl
  simp only [runEvents, write, line, exec_lineIn, Option.some.injEq] at sent received
  rw [← sent, ← received, transmit_pushTx_of_empty empty, lineInject_setTxByteCount]
  rfl

end Sys2Proof.Machine
end

section
/-!
PROOF. The statements of the CRC family that are about the pure functions (41_crc.md R105 to R112): the trailer's round
trip, the byte step as a permutation of the register, the detection of a changed byte, and the worked example.
-/

namespace Sys2Proof.Machine

/-! ## The trailer (41_crc.md R108, R109) -/

theorem crcTrailer_eq (c : Word16) : crcTrailer c = [c.extractLsb' 0 8, c.extractLsb' 8 8] := rfl

/-- Decoding the trailer is the inverse of encoding it (41_crc.md R108). -/
theorem crcOfTrailer_of_crcTrailer_eq {c : Word16} {t0 t1 : Byte} (h : crcTrailer c = [t0, t1]) :
    crcOfTrailer t0 t1 = c := by
  rw [crcTrailer_eq, List.cons.injEq, List.cons.injEq] at h
  obtain ⟨rfl, rfl, -⟩ := h
  change c.extractLsb' 8 8 ++ c.extractLsb' 0 8 = c
  exact BitVec.extractLsb'_append_extractLsb'

theorem checkCrc_iff (l : List Byte) (t0 t1 : Byte) : checkCrc l t0 t1 = true ↔ crcOfTrailer t0 t1 = crc16 l :=
  beq_iff_eq

/-! ## One byte step (41_crc.md R105, R111) -/

/-- The polynomial is odd, so the bit shifted out comes back as bit 0. -/
theorem crcShift_getLsbD_zero (c : Word16) : (crcShift c).getLsbD 0 = c.getLsbD 15 := by
  unfold crcShift
  split
  next one => simpa using one
  next zero => simpa using zero

/-- No shift loses a bit: bit 0 tells whether the polynomial was exclusive-ored in. -/
theorem crcShift_injective : Function.Injective crcShift := by
  intro c d h
  have top : c.getLsbD 15 = d.getLsbD 15 := by rw [← crcShift_getLsbD_zero, h, crcShift_getLsbD_zero]
  have shifted : c <<< 1 = d <<< 1 := by
    unfold crcShift at h
    rw [top] at h
    split at h
    · exact (BitVec.xor_left_inj _).mp h
    · exact h
  refine BitVec.eq_of_getLsbD_eq fun i hi => ?_
  obtain rfl | low : i = 15 ∨ i < 15 := by omega
  · exact top
  · simpa [hi, show i + 1 < 16 by omega] using congrArg (BitVec.getLsbD · (i + 1)) shifted

theorem crcShifts_injective : ∀ n : Nat, Function.Injective (crcShifts n)
  | 0 => Function.injective_id
  | n + 1 => (crcShifts_injective n).comp crcShift_injective

theorem crcUpdate_left_injective (b : Byte) : Function.Injective fun c : Word16 => crcUpdate c b :=
  fun _ _ h => (BitVec.xor_left_inj _).mp (crcShifts_injective 8 h)

/-- The byte goes into the high byte of the register whole. -/
theorem crcUpdate_right_injective (c : Word16) : Function.Injective (crcUpdate c) := by
  intro b x h
  have placed : b.setWidth 16 <<< 8 = x.setWidth 16 <<< 8 := (BitVec.xor_right_inj _).mp (crcShifts_injective 8 h)
  refine BitVec.eq_of_getLsbD_eq fun i hi => ?_
  simpa [hi, show i + 8 < 16 by omega] using congrArg (BitVec.getLsbD · (i + 8)) placed

/-! ## A changed byte (41_crc.md R110 (b)) -/

/-- The bytes after a difference keep it. -/
theorem crcFold_left_injective (l : List Byte) : Function.Injective fun c : Word16 => crcFold c l := by
  induction l with
  | nil => exact Function.injective_id
  | cons b l ih => exact ih.comp (crcUpdate_left_injective b)

/-- The bytes before the changed one leave the same register, the changed one makes the difference. -/
theorem crcFold_set_ne (l : List Byte) :
    ∀ (c : Word16) (n : Nat) (x : Byte),
      n < l.length → l[n]? ≠ some x → crcFold c (l.set n x) ≠ crcFold c l := by
  induction l with
  | nil => exact fun _ _ _ short => absurd short (Nat.not_lt_zero _)
  | cons b l ih =>
    intro c n x short differ
    cases n with
    | zero =>
      intro same
      have same_byte : x = b := crcUpdate_right_injective c (crcFold_left_injective l same)
      exact differ (congrArg some same_byte.symm)
    | succ n => exact ih (crcUpdate c b) n x (Nat.lt_of_succ_lt_succ short) differ

/-- Settles O55: the round trip by `crcOfTrailer_of_crcTrailer_eq`, the detection by `crcFold_set_ne`, and an injective
map of the finite register is a permutation. -/
theorem crcRoundTripAndDetection : Obligations.CrcRoundTripAndDetection := by
  refine ⟨fun l => ⟨_, _, crcTrailer_eq _, ?_⟩, fun l n x t0 t1 short differ sent => ?_, fun b => ?_⟩
  · exact (checkCrc_iff l _ _).mpr (crcOfTrailer_of_crcTrailer_eq (crcTrailer_eq _))
  · have changed : crc16 (l.set n x) ≠ crc16 l := crcFold_set_ne l crcInit n x short differ
    refine ⟨changed, Bool.eq_false_iff.mpr fun accepted => ?_⟩
    exact changed (((checkCrc_iff _ t0 t1).mp accepted).symm.trans (crcOfTrailer_of_crcTrailer_eq sent))
  · have : Finite Word16 := Finite.of_injective _ BitVec.toFin_injective
    exact Finite.injective_iff_bijective.mp (crcUpdate_left_injective b)

/-- Settles O56, by evaluation of the CRC on the example's bytes. -/
theorem crcWorkedExample : Obligations.CrcWorkedExample :=
  ⟨by decide, by decide, rfl⟩

end Sys2Proof.Machine
end

section
/-!
PROOF. The trailer that the hub core generates for the frame of a host (42_framer.md R124): the exact state that the
step leaves, with the monitor's reports.
-/

namespace Sys2Proof.Machine

/-- At the trailer of a host the hub core takes no byte (42_framer.md R129 (ii)). -/
theorem coreStep_of_hostTrailer {s : State} {h : HostPort} (gate : s.pgState ≠ .idle) (framed : s.bypassMode = false)
    (phase : (s.rxp (hostPort h)).phase = .crc) : coreStep s (hostPort h) = trailerStep s h := by
  have trailer : framedStep s (hostPort h) = trailerStep s h := by
    rw [framedStep, asHost_hostPort, phase]
  simp only [coreStep, gate, framed, if_false, Bool.false_eq_true, trailer]

/-- A host's origin is its own bit (46_monitor.md R202). -/
theorem oneHot_hostPort (h : HostPort) : oneHot (hostPort h) = 1 <<< portNum (hostPort h) := by cases h <;> rfl

/-- The bytes `l` and then the end of their frame, its length read from the monitor itself, as one report (46_monitor.md
R202). -/
theorem endEvent_tapRest (s : State) (d : Dir) (l : List Byte) (o : BitVec 3) (crc : Option Word16) :
    endEvent (tapRest s d l) d (frameEvent o ((tapRest s d l).mon.dirs.get d).monLen) crc =
      s.setMon (observed s fun m => (m.tapList d false l).frameEnded d o crc) := by
  have frame : endEvent (tapRest s d l) d (frameEvent o ((tapRest s d l).mon.dirs.get d).monLen) crc =
      (tapRest s d l).setMon (observed (tapRest s d l) fun m => m.frameEnded d o crc) := endEvent_eq _ _ _ _
  rw [frame, tapRest_eq, observed_setMon _ _ _ fun m => m.tapList_monEnabled d l false]
  rfl

/-- The trailer `l` of port `p` written to External's TX FIFO, and the timers restarted (42_framer.md R124). -/
def trailerSent (s : State) (p : Port) (l : List Byte) : State := progress (s.pushAllTx .ext l) p (some .ext)

theorem port_trailerSent (s : State) (p : Port) (l : List Byte) (q : Port) :
    (trailerSent s p l).port q = { s.port q with
      txFifo := if q = .ext then s.txFifo q ++ l else s.txFifo q
      tmo := restartedTimers s p (some .ext) q } := by
  rw [trailerSent, port_progress, restartedTimers_congr (State.pushAllTx_port_tmo s .ext l q), port_pushAllTx_eq]
  simp only [Option.some.injEq, eq_comm (a := Port.ext)]

/-- The state that the trailer of port `p` for the CRC `c` leaves (42_framer.md R124). -/
def trailerSealed (s : State) (p : Port) (c : Word16) : State :=
  (completeFrame (trailerSent s p (crcTrailer c)) p).setMon
    (observed s fun m => (m.tapList .tx false (crcTrailer c)).frameEnded .tx (oneHot p) (some c))

/-- The trailer is generated exactly if both its bytes have room (42_framer.md R124). -/
theorem trailerStep_eq (s : State) (h : HostPort) :
    trailerStep s h =
      if Room s .ext 2 then some (trailerSealed s (hostPort h) (s.rxp (hostPort h)).crc) else none := by
  generalize hc : (s.rxp (hostPort h)).crc = c
  generalize hu : completeFrame (trailerSent s (hostPort h) (crcTrailer c)) (hostPort h) = u
  have mon : u.mon = s.mon := by subst hu; simp [trailerSent]
  have bypassMode : u.bypassMode = s.bypassMode := by subst hu; simp [trailerSent]
  have reported := endEvent_tapRest u .tx (crcTrailer c) (oneHot (hostPort h)) (some c)
  rw [observed_congr _ mon bypassMode] at reported
  have room : 2 ≤ s.avail (s.txFifo .ext) ↔ Room s .ext 2 := s.le_avail _ (by decide)
  subst hc hu
  exact if_congr room (congrArg some reported) rfl

/-- The ports after the trailer: its bytes in External's TX FIFO, and the frame complete (42_framer.md R124, R129). -/
theorem port_trailerSealed {s : State} {p : Port} (dest : (s.rxp p).dest = .ext) (c : Word16) (q : Port) :
    (trailerSealed s p c).port q = { s.port q with
      txFifo := if q = .ext then s.txFifo q ++ crcTrailer c else s.txFifo q
      rxp := if q = p then (s.rxp p).atBoundary else s.rxp q
      tmo := completedTimers s p .ext q } := by
  have sent := port_trailerSent s p (crcTrailer c)
  have prm : (trailerSent s p (crcTrailer c)).prm = s.prm := by simp [trailerSent]
  have rxp : ∀ r, (trailerSent s p (crcTrailer c)).rxp r = s.rxp r := fun r => by rw [State.rxp, sent]
  have tmo : ((trailerSent s p (crcTrailer c)).port q).tmo = restartedTimers s p (some .ext) q := by rw [sent]
  rw [trailerSealed, State.setMon_port, port_completeFrame, rxp, rxp, dest, completedTimers_of_restarted tmo prm, sent]

/-- A host's trailer frees the path to External (42_framer.md R129). -/
theorem trailerSealed_extOwner (s : State) (h : HostPort) (c : Word16) :
    (trailerSealed s (hostPort h) c).extOwner = none := by
  simp [trailerSealed, completeFrame_extOwner]

theorem sameFaults_trailerSealed (s : State) (p : Port) (c : Word16) : SameFaults s (trailerSealed s p c) :=
  ⟨by simp [trailerSealed, trailerSent], by simp [trailerSealed, trailerSent]⟩

/-- Settles O46: the step is the one of `trailerStep_eq`, and `trailerSealed` is the state it leaves. -/
theorem trailersAreGeneratedForHosts : Obligations.TrailersAreGeneratedForHosts := by
  intro s h p c host gate framed phase dest crc
  subst host crc
  have step := (coreStep_of_hostTrailer gate framed phase).trans (trailerStep_eq s h)
  refine ⟨fun room => ?_, fun full => ?_⟩
  · rw [if_pos room] at step
    refine ⟨(trailerSealed s (hostPort h) (s.rxp (hostPort h)).crc).withResult .none, ?_, ?_, fun q => ?_⟩
    · rw [exec_coreRx, step]; rfl
    · rw [withResult_of_coreFrame (coreFrame_of_coreStep step) (sameFaults_trailerSealed s _ _),
        trailerSealed_extOwner, ← oneHot_hostPort]
      rfl
    · exact port_trailerSealed dest _ q
  · rw [exec_coreRx, step, if_neg full]; rfl

end Sys2Proof.Machine
end

section
/-!
SUPPORT. What a step of the hub core leaves, as one equation of states: the fields that a step never writes are those of
the state before.
-/

namespace Sys2Proof.Machine

theorem State.setMon_self (s : State) : s.setMon s.mon = s := rfl

/-- What the hub core writes, the monitor last. -/
theorem withResult_setMon_of_coreFrame {s u : State} (frame : CoreFrame s u) (m : Monitor) (r : Result) :
    (u.setMon m).withResult r = { s with
      ports := u.ports, extOwner := u.extOwner, faultBitmap := u.faultBitmap, faultTime := u.faultTime, mon := m
      result := r } := by
  obtain ⟨prm, schedule, bypassMode, pg, xoffPollCount, now, irqMasked, -⟩ := frame
  cases s; cases u
  simp only at *
  subst prm schedule bypassMode pg xoffPollCount now irqMasked
  rfl

end Sys2Proof.Machine
end

section
/-!
PROOF. First bytes of a stream (42_framer.md R115 to R119): the step of each class with the monitor's reports, and the
statements about it. The event of a class is CORE_RX with a byte of the class at hand (30_encoding.md R64, R65).
-/

namespace Sys2Proof.Machine

/-! ## The class of the byte at hand -/

/-- A type byte starts a frame on either stream that it can come on (30_encoding.md R64, R65). -/
theorem classify_eq_frameStart {m : TypeMap} (hm : m.Wf) {b : Byte} {h : HostPort} {sh : Shape} (maps : m.maps b h sh)
    (src : FrameSource) : classify m (src.port (hostPort h)) b = .frameStart h sh := by
  cases src with
  | external => exact (classifyExt_eq_frameStart hm).mpr maps
  | owner =>
    refine (classify_hostPort m h b).trans ?_
    simp only [classifyHost, (TypeMap.lookup_eq_some hm).mpr maps, if_true]

/-- A byte that is no type of its host is undefined on the host's stream (30_encoding.md R65). -/
theorem classify_hostPort_eq_undefined {m : TypeMap} (hm : m.Wf) {b : Byte} {h : HostPort}
    (unmapped : ∀ sh, ¬ m.maps b h sh) : classify m (hostPort h) b = .undefined := by
  rw [classify_hostPort]
  obtain ⟨sh, lookup, -⟩ | ⟨undefined, -⟩ := classifyHost_cases m h b
  · exact absurd ((TypeMap.lookup_eq_some hm).mp lookup) (unmapped sh)
  · exact undefined

/-- With a byte of its class at hand, an event and CORE_RX are the same step of the hub core (42_framer.md R129). -/
theorem exec_of_atFirstByte {s : State} {p : Port} {b : Byte} {i : Instr} (at_hand : AtFirstByte s p b)
    (decoded : decodeFirstByte s.prm.typeMap p b = i) :
    exec (.coreRx p) s = replyStep s (boundaryStep s p b) ∧ exec i s = replyStep s (boundaryStep s p b) := by
  have core : exec (.coreRx p) s = replyStep s (boundaryStep s p b) := by
    rw [exec_coreRx, coreStep_of_atFirstByte at_hand]
  exact ⟨core, by rw [← decoded, exec_decodeFirstByte_of_atFirstByte at_hand, core]⟩

/-! ## The states that the classes leave -/

/-- The parser waits for a header toward `dest`; the monitor sees External's bytes at once and a host's with the whole
header (42_framer.md R115, 46_monitor.md R202). -/
theorem frameStartStep_eq (s : State) (p : Port) (b : Byte) (h : HostPort) (sh : Shape) :
    frameStartStep s p b h sh =
      some ((frameStart s p b sh (if p = .ext then hostPort h else .ext)).setMon
        (if p = .ext then observed s (fun m => m.tap .rx b true) else s.mon)) := by
  obtain rfl | ⟨g, rfl⟩ := ext_or_hostPort p
  · have reported := observed_congr (s := s) (t := frameStart s .ext b sh (hostPort h)) (fun m => m.tap .rx b true) rfl rfl
    rw [frameStartStep, tap_eq, reported]; rfl
  · have host : frameStartStep s (hostPort g) b h sh = some (frameStart s (hostPort g) b sh .ext) := by cases g <;> rfl
    rw [host, if_neg (hostPort_ne_ext g), if_neg (hostPort_ne_ext g)]
    exact congrArg some (State.setMon_self (frameStart s (hostPort g) b sh .ext)).symm

/-- The two reports of a one-byte event, as one (46_monitor.md R202). -/
theorem endEvent_tap {s u : State} (mon : u.mon = s.mon) (bypassMode : u.bypassMode = s.bypassMode) (d : Dir) (b : Byte)
    (r : PktInfo) :
    endEvent (tap u d b true) d r none = u.setMon (observed s fun m => (m.tap d b true).endEvent d r none) := by
  rw [endEvent_eq, tap_eq, observed_setMon _ _ _ fun m => m.tap_monEnabled d b true,
    observed_congr (fun m => (m.tap d b true).endEvent d r none) mon bypassMode]
  rfl

theorem keepaliveStep_eq (s : State) (b : Byte) :
    keepaliveStep s b =
      some ((consume s .ext).setMon (observed s fun m => (m.tap .rx b true).endEvent .rx (oneByteEvent 0) none)) := by
  rw [keepaliveStep, endEvent_tap (s := s) (u := consume s .ext) rfl rfl]

theorem escapeStep_eq (s : State) (b : Byte) (h : HostPort) :
    escapeStep s b h =
      if Room s (hostPort h) 1 then
        some (((consume s .ext).pushTx (hostPort h) b).setMon
          (observed s fun m => (m.tap .rx b true).endEvent .rx (oneByteEvent (oneHot (hostPort h))) none))
      else none := by
  rw [escapeStep, endEvent_tap (s := s) (u := (consume s .ext).pushTx (hostPort h) b) rfl rfl]
  exact if_congr (s.le_avail _ (Nat.le_refl 1)) rfl rfl

/-- The undefined byte `b` of source port `p` forwarded to `d`, and the fault raised (42_framer.md R118, R119). -/
def undefinedForwarded (s : State) (p d : Port) (b : Byte) : State :=
  raiseFault ((consume s p).pushTx d b) .packetTypeError p

theorem coreFrame_undefinedForwarded (s : State) (p d : Port) (b : Byte) : CoreFrame s (undefinedForwarded s p d b) :=
  ((coreFrame_consume s p).trans (coreFrame_pushTx _ d b)).trans (coreFrame_raiseFault _ _ p)

theorem undefinedExtStep_eq (s : State) (b : Byte) :
    undefinedExtStep s b =
      if Room s .h0 1 then
        some ((undefinedForwarded s .ext .h0 b).setMon
          (observed s fun m => (m.tap .rx b true).endEvent .rx (oneByteEvent 0) none))
      else none := by
  have reported := endEvent_tap (s := s) (u := undefinedForwarded s .ext .h0 b) rfl rfl .rx b (oneByteEvent 0)
  rw [undefinedExtStep, ← reported]
  exact if_congr (s.le_avail _ (Nat.le_refl 1)) rfl rfl

theorem undefinedHostStep_eq (s : State) (h : HostPort) (b : Byte) :
    undefinedHostStep s h b =
      if s.extOwner = none ∧ Room s .ext 1 then
        some ((undefinedForwarded s (hostPort h) .ext b).setMon
          (observed s fun m => (m.tap .tx b true).endEvent .tx (oneByteEvent (oneHot (hostPort h))) none))
      else none := by
  have reported := endEvent_tap (s := s) (u := undefinedForwarded s (hostPort h) .ext b) rfl rfl .tx b
    (oneByteEvent (oneHot (hostPort h)))
  rw [undefinedHostStep, ← reported]
  exact if_congr (and_congr_right fun _ => s.le_avail _ (Nat.le_refl 1)) rfl rfl

/-! ## The statements -/

/-- Settles O40: the step of the class is the one of `frameStartStep_eq`, with the ports of `framePorts_frameStart`. -/
theorem frameStartHoldsTheTypeByte : Obligations.FrameStartHoldsTheTypeByte := by
  intro s p b h sh src hm at_hand maps source
  subst source
  have decoded := decodeFirstByte_of_encode hm (encode_typeInstr h sh src b) (wellFormed_typeInstr.mpr maps)
  obtain ⟨core, event⟩ := exec_of_atFirstByte at_hand decoded
  have step : boundaryStep s (src.port (hostPort h)) b = frameStartStep s (src.port (hostPort h)) b h sh := by
    rw [boundaryStep, classify_eq_frameStart hm maps src]
  rw [step, frameStartStep_eq] at core event
  exact ⟨_, core, event, withResult_setMon_of_coreFrame (coreFrame_frameStart s _ b sh _) _ _, framePorts_frameStart s _ b sh _⟩

/-- Settles O41: the keepalive by `keepaliveStep_eq`, the three escapes by `escapeStep_eq`. -/
theorem escapesAreRouted : Obligations.EscapesAreRouted := by
  refine ⟨fun s at_hand => ?_, fun s i b h o row at_hand => ?_⟩
  · obtain ⟨core, event⟩ := exec_of_atFirstByte (i := .keepalive) at_hand rfl
    have step : boundaryStep s .ext 0xFF = keepaliveStep s 0xFF := rfl
    rw [step, keepaliveStep_eq] at core event
    exact ⟨_, core, event, withResult_setMon_of_coreFrame (coreFrame_consume s .ext) _ _, port_consume_eq s .ext⟩
  · have named : decodeFirstByte s.prm.typeMap .ext b = i ∧ boundaryStep s .ext b = escapeStep s b h ∧
        o = oneHot (hostPort h) := by
      obtain ⟨rfl, rfl, rfl, rfl⟩ | ⟨rfl, rfl, rfl, rfl⟩ | ⟨rfl, rfl, rfl, rfl⟩ := row <;> exact ⟨rfl, rfl, rfl⟩
    obtain ⟨decoded, step, rfl⟩ := named
    obtain ⟨core, event⟩ := exec_of_atFirstByte at_hand decoded
    rw [step, escapeStep_eq] at core event
    refine ⟨fun room => ?_, fun full => ?_⟩
    · rw [if_pos room] at core event
      have frame := (coreFrame_consume s .ext).trans (coreFrame_pushTx _ (hostPort h) b)
      exact ⟨_, core, event, withResult_setMon_of_coreFrame frame _ _, fun q => port_consume_pushTx s .ext (hostPort h) q b⟩
    · rw [if_neg full] at event
      exact event

/-- Settles O42: the two sources by `undefinedExtStep_eq` and `undefinedHostStep_eq`. -/
theorem undefinedBytesAreForwarded : Obligations.UndefinedBytesAreForwarded := by
  refine ⟨fun s b at_hand plain unmapped => ?_, fun s h b hm at_hand unmapped => ?_⟩
  · have cls : classifyExt s.prm.typeMap b = .undefined := classifyExt_eq_undefined.mpr ⟨plain, unmapped⟩
    have decoded : decodeFirstByte s.prm.typeMap .ext b = .undefinedFromExt b := by
      simp only [decodeFirstByte, decodeFirstByteExt, cls]
    have step : boundaryStep s .ext b = undefinedExtStep s b := by
      simp only [boundaryStep, classify, cls]; rfl
    obtain ⟨core, event⟩ := exec_of_atFirstByte at_hand decoded
    rw [step, undefinedExtStep_eq] at core event
    refine ⟨fun room => ?_, fun full => ?_⟩
    · rw [if_pos room] at core event
      exact ⟨_, core, event, withResult_setMon_of_coreFrame (coreFrame_undefinedForwarded s .ext .h0 b) _ _,
        fun q => port_consume_pushTx s .ext .h0 q b⟩
    · rw [if_neg full] at event
      exact event
  · have decoded : decodeFirstByte s.prm.typeMap (hostPort h) b = .undefinedFromHost h b :=
      (decodeFirstByte_hostPort _ h b).trans
        (decodeFirstByteHost_of_not_has hm fun has => (has_iff_exists_maps.mp has).elim unmapped)
    have step : boundaryStep s (hostPort h) b = undefinedHostStep s h b := by
      simp only [boundaryStep, classify_hostPort_eq_undefined hm unmapped, asHost_hostPort]
    obtain ⟨core, event⟩ := exec_of_atFirstByte at_hand decoded
    rw [step, undefinedHostStep_eq] at core event
    refine ⟨fun free room => ?_, fun blocked => ?_⟩
    · rw [if_pos ⟨free, room⟩] at core event
      refine ⟨_, core, event, ?_, fun q => port_consume_pushTx s (hostPort h) .ext q b⟩
      rw [← oneHot_hostPort]
      exact withResult_setMon_of_coreFrame (coreFrame_undefinedForwarded s (hostPort h) .ext b) _ _
    · rw [if_neg fun fits => blocked.elim (absurd fits.1) (absurd fits.2)] at event
      exact event

end Sys2Proof.Machine
end

section
/-!
PROOF. Held header bytes, payload bytes and received trailers (42_framer.md R121 to R127): the exact state that each step
leaves, with the monitor's reports, and the statements about it.
-/

namespace Sys2Proof.Machine

/-! ## A header byte that is not the last -/

/-- The byte is held; the monitor sees External's at once (42_framer.md R121, 46_monitor.md R202). -/
def headerHeld (s : State) (p : Port) (b : Byte) : State :=
  progress ((consume s p).setParser p { s.rxp p with hdr := (s.rxp p).hdr ++ [b] }) p none

theorem coreFrame_headerHeld (s : State) (p : Port) (b : Byte) : CoreFrame s (headerHeld s p b) :=
  ((coreFrame_consume s p).trans (coreFrame_setParser _ p _)).trans (coreFrame_progress _ p none)

theorem framePorts_headerHeld (s : State) (p : Port) (b : Byte) :
    FramePorts s (headerHeld s p b) p none [] { s.rxp p with hdr := (s.rxp p).hdr ++ [b] } (restartedTimers s p none) :=
  fun q => port_progress_setParser (port_consume_eq s p q) rfl rfl p _ none

theorem headerStep_of_short {s : State} {p : Port} (b : Byte)
    (short : (s.rxp p).hdr.length + 1 < hdrLen (s.rxp p).shape) :
    headerStep s p b =
      some ((headerHeld s p b).setMon (if p = .ext then observed s (fun m => m.tap .rx b false) else s.mon)) := by
  have held : headerStep s p b = some (headerHold s p b) := if_pos short
  rw [held]
  obtain rfl | ⟨g, rfl⟩ := ext_or_hostPort p
  · have reported := observed_congr (s := s) (t := headerHeld s .ext b) (fun m => m.tap .rx b false) rfl rfl
    rw [if_pos rfl, ← reported]
    exact congrArg some (tap_eq (headerHeld s .ext b) .rx b false)
  · have host : headerHold s (hostPort g) b = headerHeld s (hostPort g) b := by cases g <;> rfl
    rw [host, if_neg (hostPort_ne_ext g)]
    exact congrArg some (State.setMon_self (headerHeld s (hostPort g) b)).symm

/-- Settles O43: the step is the one of `headerStep_of_short`. -/
theorem headerBytesAreHeld : Obligations.HeaderBytesAreHeld := by
  intro s p b at_hand phase short
  refine ⟨_, ?_, withResult_setMon_of_coreFrame (coreFrame_headerHeld s p b) _ .none, framePorts_headerHeld s p b⟩
  rw [exec_coreRx, coreStep_of_header at_hand phase, headerStep_of_short b short]
  rfl

/-! ## A payload byte -/

/-- The state after a payload byte, before the parser goes on (42_framer.md R122). -/
def payloadWritten (s : State) (p : Port) (b : Byte) : State := payloadTap (payloadForward s p b) p b

/-- The state after a payload byte, the last one taking the parser on (42_framer.md R122, R123). -/
def payloadTaken (s : State) (p : Port) (b : Byte) : State :=
  if (s.rxp p).remain - 1 = 0 then
    endUncheckedFrame (afterPayload (payloadWritten s p b) p) p (s.rxp p).dest
      ((payloadWritten s p b).mon.dirs.get .rx).monLen
  else payloadWritten s p b

theorem payloadStep_eq (s : State) (p : Port) (b : Byte) :
    payloadStep s p b = if Room s (s.rxp p).dest 1 then some (payloadTaken s p b) else none := by
  refine if_congr (s.le_avail _ (Nat.le_refl 1)) ?_ rfl
  rw [payloadTaken, apply_ite some]
  rfl

section
variable (s : State) (p : Port) (b : Byte)

theorem coreFrame_payloadWritten : CoreFrame s (payloadWritten s p b) :=
  (((coreFrame_consume s p).trans (coreFrame_pushTx _ (s.rxp p).dest b)).trans
    (coreFrame_setParser _ p _)).trans (coreFrame_progress _ p _) |>.trans (coreFrame_payloadTap _ _ _)

theorem sameFaults_payloadWritten : SameFaults s (payloadWritten s p b) :=
  SameFaults.trans ⟨by simp [payloadForward], by simp [payloadForward]⟩ (sameFaults_payloadTap (payloadForward s p b) p b)

theorem payloadWritten_extOwner : (payloadWritten s p b).extOwner = s.extOwner := by
  simp [payloadWritten, payloadForward]

theorem framePorts_payloadWritten :
    FramePorts s (payloadWritten s p b) p (some (s.rxp p).dest) [b]
      { s.rxp p with crc := crcUpdate (s.rxp p).crc b, remain := (s.rxp p).remain - 1 }
      (restartedTimers s p (some (s.rxp p).dest)) :=
  (framePorts_payloadForward s p b).congr fun q => payloadTap_port _ p b q

/-- The monitor sees a payload byte as received from External or as sent toward it (46_monitor.md R202). -/
theorem payloadWritten_mon :
    (payloadWritten s p b).mon = observed s fun m => m.tap (if p = .ext then .rx else .tx) b false := by
  have tapped : payloadWritten s p b = tap (payloadForward s p b) (if p = .ext then .rx else .tx) b false := by
    obtain rfl | ⟨g, rfl⟩ := ext_or_hostPort p
    · rfl
    · rw [if_neg (hostPort_ne_ext g)]
      cases g <;> rfl
  have mon : (payloadForward s p b).mon = s.mon := by simp [payloadForward]
  have bypassMode : (payloadForward s p b).bypassMode = s.bypassMode := by simp [payloadForward]
  rw [tapped, tap_eq, State.setMon_mon, observed_congr _ mon bypassMode]

end

theorem setPhase_self {s : State} {p : Port} {ph : Phase} (h : (s.rxp p).phase = ph) : setPhase s p ph = s := by
  subst h
  exact State.setPort_port s p

/-- The parser goes on to the next payload byte or to the trailer (42_framer.md R123). -/
theorem payloadTaken_of_more {s : State} {p : Port} {b : Byte} (phase : (s.rxp p).phase = .payload)
    (some_left : 1 ≤ (s.rxp p).remain) (more : 2 ≤ (s.rxp p).remain ∨ s.endsAtPayload p = false) :
    payloadTaken s p b = setPhase (payloadWritten s p b) p (if 2 ≤ (s.rxp p).remain then .payload else .crc) := by
  by_cases many : 2 ≤ (s.rxp p).remain
  · have same : ((payloadWritten s p b).rxp p).phase = .payload := by
      rw [(framePorts_payloadWritten s p b).rxp_self]; exact phase
    rw [payloadTaken, if_neg (by omega), if_pos many, setPhase_self same]
  · have trailer : (payloadWritten s p b).endsAtPayload p = false :=
      (endsAtPayload_congr (coreFrame_payloadWritten s p b).prm p).trans (more.resolve_left many)
    rw [payloadTaken, if_pos (by omega), if_neg many, afterPayload_of_trailer trailer]
    exact endUncheckedFrame_of_trailer (s := setPhase (payloadWritten s p b) p .crc) trailer _ _

/-- A frame from External without a trailer ends (42_framer.md R123). -/
theorem payloadTaken_of_end {s : State} {p : Port} {b : Byte} (last : (s.rxp p).remain = 1)
    (ends : s.endsAtPayload p = true) :
    payloadTaken s p b =
      endEvent (completeFrame (payloadWritten s p b) p) .rx
        (frameEvent (oneHot (s.rxp p).dest) ((payloadWritten s p b).mon.dirs.get .rx).monLen) none := by
  have ends_here : (payloadWritten s p b).endsAtPayload p = true :=
    (endsAtPayload_congr (coreFrame_payloadWritten s p b).prm p).trans ends
  rw [payloadTaken, if_pos (by omega), afterPayload_of_ends ends_here]
  exact endUncheckedFrame_of_ends ((endsAtPayload_congr (completeFrame_prm _ p) p).trans ends_here) _ _

/-- The end of a frame is reported with the length that the monitor has latched (46_monitor.md R202). -/
theorem frameEnded_completeFrame_mon {s u : State} {f : Monitor → Monitor} (mon : u.mon = observed s f)
    (keeps : ∀ m, (f m).monEnabled = m.monEnabled) (bypassMode : u.bypassMode = s.bypassMode) (p : Port) (d : Dir)
    (o : BitVec 3) (crc : Option Word16) :
    (endEvent (completeFrame u p) d (frameEvent o (u.mon.dirs.get d).monLen) crc).mon =
      observed s fun m => (f m).frameEnded d o crc := by
  rw [endEvent_completeFrame_mon mon keeps bypassMode, mon]
  unfold observed
  by_cases captures : s.mon.monEnabled = true ∧ s.bypassMode = false
  · simp only [if_pos captures]; rfl
  · simp only [if_neg captures]

/-- What the step on a payload byte leaves, whether it ends the frame or not (42_framer.md R122, R123). -/
theorem payloadTaken_leaves {s : State} {p : Port} (b : Byte) (phase : (s.rxp p).phase = .payload)
    (some_left : 1 ≤ (s.rxp p).remain) :
    CoreFrame s (payloadTaken s p b) ∧ SameFaults s (payloadTaken s p b) ∧
    (payloadTaken s p b).extOwner = s.extOwner := by
  have frame := coreFrame_payloadWritten s p b
  have faults := sameFaults_payloadWritten s p b
  have owner := payloadWritten_extOwner s p b
  by_cases more : 2 ≤ (s.rxp p).remain ∨ s.endsAtPayload p = false
  · rw [payloadTaken_of_more phase some_left more]
    exact ⟨frame.trans (coreFrame_setParser _ _ _), faults, owner⟩
  · obtain ⟨last, ends⟩ := not_or.mp more
    replace ends := eq_true_of_ne_false ends
    obtain ⟨rfl, -⟩ := eq_ext_of_endsAtPayload ends
    rw [payloadTaken_of_end (by omega) ends]
    refine ⟨(frame.trans (coreFrame_completeFrame _ _)).trans (coreFrame_endEvent _ _ _ _),
      faults.trans ⟨by simp, by simp⟩, ?_⟩
    rw [endEvent_extOwner, completeFrame_extOwner, if_pos rfl, owner]

theorem coreStep_of_payload {s : State} {p : Port} {b : Byte} (h : AtByte s p b) (phase : (s.rxp p).phase = .payload) :
    coreStep s p = if Room s (s.rxp p).dest 1 then some (payloadTaken s p b) else none := by
  rw [coreStep_of_atByte h (by rw [phase]; decide), byteStep, phase]
  exact payloadStep_eq s p b

/-- Settles O45: the step of `coreStep_of_payload` goes on by `payloadTaken_of_more` or `payloadTaken_of_end`. -/
theorem payloadBytesAreForwarded : Obligations.PayloadBytesAreForwarded := by
  intro s p d b at_hand phase some_left dest
  subst dest
  have step := coreStep_of_payload at_hand phase
  have written := framePorts_payloadWritten s p b
  refine ⟨fun room => ⟨(payloadTaken s p b).withResult .none, ?_, ?_, fun more => ?_, fun ended => ?_⟩, fun full => ?_⟩
  · rw [exec_coreRx, step, if_pos room]; rfl
  · obtain ⟨frame, faults, owner⟩ := payloadTaken_leaves b phase some_left
    rw [withResult_of_coreFrame frame faults, owner]
  · have more' : 2 ≤ (s.rxp p).remain ∨ s.endsAtPayload p = false :=
      more.imp_right fun trailer => by simpa [State.endsAtPayload, or_iff_not_imp_left, asHost_eq_none] using trailer
    rw [payloadTaken_of_more phase some_left more']
    exact ⟨payloadWritten_mon s p b, written.setPhase _⟩
  · obtain ⟨last, rfl, trailer⟩ := ended
    have ends : s.endsAtPayload .ext = true := by simp [State.endsAtPayload, asHost, trailer]
    have frame := coreFrame_payloadWritten s .ext b
    rw [payloadTaken_of_end last ends]
    exact ⟨frameEnded_completeFrame_mon (payloadWritten_mon s .ext b) (fun m => m.tap_monEnabled .rx b false)
      frame.bypassMode .ext _ _ _, (written.complete rfl frame.prm).congr fun q => endEvent_port _ _ _ _ q⟩
  · rw [exec_coreRx, step, if_neg full]; rfl

/-! ## A trailer byte from External -/

/-- The two trailer bytes as a number: low byte first (41_crc.md R108). -/
theorem crcOfTrailer_eq_iff (t0 t1 : Byte) (c : Word16) :
    crcOfTrailer t0 t1 = c ↔ t0.toNat + 256 * t1.toNat = c.toNat := by
  have value : (crcOfTrailer t0 t1).toNat = t0.toNat + 256 * t1.toNat := by
    change (t1 ++ t0).toNat = _
    rw [BitVec.toNat_append, ← Nat.shiftLeft_add_eq_or_of_lt t0.isLt, Nat.shiftLeft_eq]
    omega
  rw [← BitVec.toNat_inj, value]

theorem coreStep_of_trailer {s : State} {b : Byte} (h : AtByte s .ext b) (phase : (s.rxp .ext).phase = .crc) :
    coreStep s .ext = trailerRxStep s b := by
  obtain ⟨gate, framed, head⟩ := h
  obtain ⟨rest, fifo⟩ := List.head?_eq_some_iff.mp head
  have byte : framedStep s .ext = trailerRxStep s b := by
    simp only [framedStep, asHost, fifo, byteStep, phase]
  simp only [coreStep, gate, framed, if_false, Bool.false_eq_true, byte]

theorem trailerRxStep_of_first {s : State} (b : Byte) (first : (s.rxp .ext).trailer = []) :
    trailerRxStep s b = some ((trailerTake s b).setMon (observed s fun m => m.tap .rx b false)) := by
  have reported := observed_congr (s := s) (t := trailerTake s b) (fun m => m.tap .rx b false)
    (by simp [trailerTake]) (by simp [trailerTake])
  have taken : trailerRxStep s b = some (tap (trailerTake s b) .rx b false) := by simp only [trailerRxStep, first]; rfl
  rw [taken, tap_eq, reported]

@[simp] theorem crcFail_extOwner (s : State) (h : Port) : (crcFail s h).extOwner = s.extOwner := rfl
@[simp] theorem crcFail_mon (s : State) (h : Port) : (crcFail s h).mon = s.mon := rfl
@[simp] theorem crcFail_faultBitmap (s : State) (h : Port) :
    (crcFail s h).faultBitmap = s.faultBitmap ||| (1 <<< faultBit .crcError h) := rfl
@[simp] theorem crcFail_faultTime (s : State) (h : Port) : (crcFail s h).faultTime = s.now := rfl

theorem coreFrame_crcFail (s : State) (h : Port) : CoreFrame s (crcFail s h) :=
  (coreFrame_setPort s h _).trans (coreFrame_raiseFault _ .crcError h)

/-- The second trailer byte taken and the CRC judged, before the frame is complete (42_framer.md R125 to R127). -/
def trailerJudged (s : State) (t0 t1 : Byte) : State :=
  if crcOfTrailer t0 t1 = (s.rxp .ext).crc then trailerTake s t1 else crcFail (trailerTake s t1) (s.rxp .ext).dest

theorem coreFrame_trailerJudged (s : State) (t0 t1 : Byte) : CoreFrame s (trailerJudged s t0 t1) := by
  have taken := coreFrame_trailerTake s t1
  unfold trailerJudged
  split
  · exact taken
  · exact taken.trans (coreFrame_crcFail _ _)

theorem trailerJudged_extOwner (s : State) (t0 t1 : Byte) : (trailerJudged s t0 t1).extOwner = s.extOwner := by
  have owner := trailerTake_extOwner s t1
  unfold trailerJudged
  split
  · exact owner
  · rw [crcFail_extOwner, owner]

theorem trailerJudged_faultBitmap (s : State) (t0 t1 : Byte) :
    (trailerJudged s t0 t1).faultBitmap =
      if crcOfTrailer t0 t1 = (s.rxp .ext).crc then s.faultBitmap
      else s.faultBitmap ||| (1 <<< faultBit .crcError (s.rxp .ext).dest) := by
  obtain ⟨bitmap, -⟩ := sameFaults_trailerTake s t1
  unfold trailerJudged
  split
  · exact bitmap
  · rw [crcFail_faultBitmap, bitmap]

theorem trailerJudged_faultTime (s : State) (t0 t1 : Byte) :
    (trailerJudged s t0 t1).faultTime =
      if crcOfTrailer t0 t1 = (s.rxp .ext).crc then s.faultTime else s.now := by
  unfold trailerJudged
  split
  · exact (sameFaults_trailerTake s t1).2
  · rw [crcFail_faultTime, (coreFrame_trailerTake s t1).now]

/-- The ports after the second trailer byte: a mismatch counts at the addressee (42_framer.md R126, R127). -/
theorem port_completeFrame_trailerJudged (s : State) (t0 t1 : Byte) (q : Port) :
    (completeFrame (trailerJudged s t0 t1) .ext).port q = { movedPort s .ext none [] q with
      crcErrCount :=
        if q = (s.rxp .ext).dest ∧ crcOfTrailer t0 t1 ≠ (s.rxp .ext).crc then s.inc (s.port q).crcErrCount
        else (s.port q).crcErrCount
      rxp := if q = .ext then (s.rxp .ext).atBoundary else s.rxp q
      tmo := completedTimers s .ext (s.rxp .ext).dest q } := by
  have taken := framePorts_trailerTake s t1
  have prm := (coreFrame_trailerTake s t1).prm
  unfold trailerJudged
  split
  next agree => simp only [agree, ne_eq, not_true, and_false, if_false]; exact taken.complete rfl prm q
  next differ => simp only [ne_eq, differ, not_false_eq_true, and_true]; exact port_completeFrame_crcFail taken rfl prm q

theorem trailerRxStep_of_second {s : State} {t0 : Byte} (t1 : Byte) (second : (s.rxp .ext).trailer = [t0]) :
    trailerRxStep s t1 =
      some ((completeFrame (trailerJudged s t0 t1) .ext).setMon
        (observed s fun m => (m.tap .rx t1 false).frameEnded .rx (oneHot (s.rxp .ext).dest)
          (some (crcOfTrailer t0 t1)))) := by
  have frame := (coreFrame_trailerJudged s t0 t1).trans (coreFrame_completeFrame _ .ext)
  have mon : (completeFrame (trailerJudged s t0 t1) .ext).mon = s.mon := by
    unfold trailerJudged
    split <;> simp [trailerTake]
  have reported := endEvent_tapRest (completeFrame (trailerJudged s t0 t1) .ext) .rx [t1] (oneHot (s.rxp .ext).dest)
    (some (crcOfTrailer t0 t1))
  rw [observed_congr _ mon frame.bypassMode] at reported
  have step : trailerRxStep s t1 = some (endEvent (tapRest (completeFrame (trailerJudged s t0 t1) .ext) .rx [t1]) .rx
      (frameEvent (oneHot (s.rxp .ext).dest)
        ((tapRest (completeFrame (trailerJudged s t0 t1) .ext) .rx [t1]).mon.dirs.get .rx).monLen)
      (some (crcOfTrailer t0 t1))) := by
    simp only [trailerRxStep, second]; rfl
  rw [step, reported]
  rfl

/-- Settles O47: the first byte by `trailerRxStep_of_first`, the second by `trailerRxStep_of_second`. -/
theorem trailersFromExternalAreChecked : Obligations.TrailersFromExternalAreChecked := by
  intro s h b at_hand phase dest
  rw [← dest]
  have step := coreStep_of_trailer at_hand phase
  refine ⟨fun first => ?_, fun t0 second => ?_⟩
  · rw [trailerRxStep_of_first b first] at step
    refine ⟨_, by rw [exec_coreRx, step, replyStep_some], ?_, fun q => ?_⟩
    · obtain ⟨bitmap, time⟩ := sameFaults_trailerTake s b
      rw [withResult_setMon_of_coreFrame (coreFrame_trailerTake s b), bitmap, time, trailerTake_extOwner]
    · have ports := framePorts_trailerTake s b
      rw [first] at ports
      rw [State.withResult_port, State.setMon_port]
      exact ports q
  · rw [trailerRxStep_of_second b second] at step
    refine ⟨_, by rw [exec_coreRx, step, replyStep_some], ?_, fun q => ?_⟩
    · have frame := (coreFrame_trailerJudged s t0 b).trans (coreFrame_completeFrame _ .ext)
      rw [withResult_setMon_of_coreFrame frame, completeFrame_extOwner, if_pos rfl, trailerJudged_extOwner,
        completeFrame_faultBitmap, completeFrame_faultTime, trailerJudged_faultBitmap, trailerJudged_faultTime, dest,
        oneHot_hostPort]
      simp only [crcOfTrailer_eq_iff]
      simp only [faultBit, faultKindNum, Nat.mul_zero, Nat.zero_add]
      rfl
    · rw [State.withResult_port, State.setMon_port]
      simp only [ne_eq, ← crcOfTrailer_eq_iff]
      exact port_completeFrame_trailerJudged s t0 b q

end Sys2Proof.Machine
end

section
/-!
PROOF. Bypass and the resets of parsers and ports (42_framer.md R130 to R133): what switching the mode and RESET_PORT
leave, and the byte-by-byte joint of H0 and External.
-/

namespace Sys2Proof.Machine

/-! ## Bypass -/

theorem coreStep_of_bypass {s : State} (gate : s.pgState ≠ .idle) (bypass : s.bypassMode = true) (p : Port) :
    coreStep s p = bypassStep s p := by
  rw [coreStep, if_neg gate, if_pos bypass]

/-- A byte passes exactly if one is at hand and the other side has room (42_framer.md R131). -/
theorem passThrough_of_head {s : State} {p : Port} {b : Byte} (head : (s.rxFifo p).head? = some b) (q : Port) :
    passThrough s p q = if Room s q 1 then some ((consume s p).pushTx q b) else none := by
  obtain ⟨rest, fifo⟩ := List.head?_eq_some_iff.mp head
  simp only [passThrough, fifo, s.le_avail _ (Nat.le_refl 1)]

theorem passThrough_of_empty {s : State} {p : Port} (empty : s.rxFifo p = []) (q : Port) :
    passThrough s p q = none := by
  rw [passThrough, empty]

theorem passThrough_of_blocked {s : State} {p q : Port} (blocked : s.rxFifo p = [] ∨ ¬ Room s q 1) :
    passThrough s p q = none := by
  cases head : (s.rxFifo p).head? with
  | none => exact passThrough_of_empty (List.head?_eq_none_iff.mp head) q
  | some b =>
    have full : ¬ Room s q 1 := blocked.resolve_left fun empty => by rw [empty] at head; cases head
    rw [passThrough_of_head head, if_neg full]

/-- Settles O48: H0 and External by `passThrough_of_head`; the other two streams are not connected. -/
theorem bypassJoinsHostZeroAndExternal : Obligations.BypassJoinsHostZeroAndExternal := by
  intro s p q b gate bypass joined
  have step : coreStep s p = passThrough s p q := by
    rw [coreStep_of_bypass gate bypass]
    obtain ⟨rfl, rfl⟩ | ⟨rfl, rfl⟩ := joined <;> rfl
  have stands : ∀ r, bypassStep s r = none → exec (.coreRx r) s = .next { s with result := .notEnabled } := by
    intro r none
    rw [exec_coreRx, coreStep_of_bypass gate bypass, none]
    rfl
  refine ⟨fun head room => ?_, fun blocked => ?_, stands .h1 rfl, stands .h2 rfl⟩
  · rw [passThrough_of_head head, if_pos room] at step
    exact ⟨_, by rw [exec_coreRx, step, replyStep_some],
      withResult_of_coreFrame ((coreFrame_consume s p).trans (coreFrame_pushTx _ q b)) ⟨rfl, rfl⟩ .none,
      fun r => port_consume_pushTx s p q r b⟩
  · rw [exec_coreRx, step, passThrough_of_blocked blocked]
    rfl

/-! ## Resets -/

theorem coreFrame_parserReset (s : State) (p : Port) : CoreFrame s (parserReset s p) := by
  apply CoreFrame.of_mon_eq <;> simp

theorem coreFrame_portReset (s : State) (p : Port) : CoreFrame s (portReset s p) := by
  apply CoreFrame.of_mon_eq <;> simp

/-- Settles O50, by the ports and the owner after a port reset (`port_portReset`, `portReset_extOwner`). -/
theorem resetPortDropsOnePort : Obligations.ResetPortDropsOnePort := by
  intro s p
  refine ⟨(portReset s p).withResult .ok, rfl, ?_, port_portReset s p⟩
  rw [withResult_of_coreFrame (coreFrame_portReset s p) ⟨by simp, by simp⟩, portReset_extOwner, portReset_mon]

/-! ## Switching the mode -/

/-- Every parser reset, in the order of SET_BYPASS (42_framer.md R130). -/
def resetParsers (s : State) : State := allPorts.foldl parserReset s

theorem coreFrame_resetParsers (s : State) : CoreFrame s (resetParsers s) :=
  foldl_rel coreFrame_refl CoreFrame.trans coreFrame_parserReset allPorts s

theorem sameFaults_resetParsers (s : State) : SameFaults s (resetParsers s) :=
  foldl_rel SameFaults.refl SameFaults.trans (fun s p => ⟨parserReset_faultBitmap s p, parserReset_faultTime s p⟩)
    allPorts s

theorem resetParsers_mon (s : State) : (resetParsers s).mon = s.mon := by simp [resetParsers, allPorts]

/-- The reset of every parser frees the path, whoever owns it (42_framer.md R130). -/
theorem resetParsers_extOwner (s : State) : (resetParsers s).extOwner = none := by
  simp only [resetParsers, allPorts, List.foldl_cons, List.foldl_nil, parserReset_extOwner]
  cases s.extOwner with
  | none => rfl
  | some h => cases h <;> rfl

theorem rxp_parserReset (s : State) (p q : Port) :
    (parserReset s p).rxp q = if q = p then (s.rxp p).atBoundary else s.rxp q := by
  rw [State.rxp, port_parserReset]

theorem timer_rx_parserReset (s : State) (p q : Port) :
    (parserReset s p).timer q .rx = if q = p then 0 else s.timer q .rx := by
  rw [State.timer, State.tmo, port_parserReset, PerDir.get_rx]

theorem timer_tx_parserReset (s : State) (p q : Port) :
    (parserReset s p).timer q .tx =
      if (q = .ext ∧ s.extOwner ≠ none ∧ s.extOwner = asHost p) ∨
          (p = .ext ∧ Delivering (s.rxp .ext) ∧ (s.rxp .ext).dest = q) then 0
      else s.timer q .tx := by
  rw [State.timer, State.tmo, port_parserReset, PerDir.get_tx]

theorem rxp_resetParsers (s : State) (q : Port) : (resetParsers s).rxp q = (s.rxp q).atBoundary := by
  simp only [resetParsers, allPorts, List.foldl_cons, List.foldl_nil, rxp_parserReset]
  cases q <;> rfl

theorem timer_rx_resetParsers (s : State) (q : Port) : (resetParsers s).timer q .rx = 0 := by
  simp only [resetParsers, allPorts, List.foldl_cons, List.foldl_nil, timer_rx_parserReset]
  cases q <;> rfl

/-- A host's reset stops External's TX timer if the host owns the path, and External's own reset stops the TX timer of
the destination of its frame (42_framer.md R132). -/
theorem timer_tx_resetParsers (s : State) (q : Port) :
    (resetParsers s).timer q .tx =
      if (q = .ext ∧ s.extOwner ≠ none) ∨ (Delivering (s.rxp .ext) ∧ (s.rxp .ext).dest = q) then 0
      else s.timer q .tx := by
  simp only [resetParsers, allPorts, List.foldl_cons, List.foldl_nil, timer_tx_parserReset, rxp_parserReset,
    parserReset_extOwner]
  cases owner : s.extOwner with
  | none => simp [asHost]
  | some h => by_cases ext : q = .ext <;> cases h <;> simp [asHost, ext]

/-- A record that a reset leaves is known by its parser and its two timers. -/
theorem Restarted.eq {q x : PortState} (h : Restarted q x) :
    x = { q with
      rxp := x.rxp
      tmo := { tx := { q.tmo.tx with timer := x.tmo.tx.timer }, rx := { q.tmo.rx with timer := x.tmo.rx.timer } } } := by
  obtain ⟨rest, tmo⟩ := h
  have records : x.tmo =
      { tx := { q.tmo.tx with timer := x.tmo.tx.timer }, rx := { q.tmo.rx with timer := x.tmo.rx.timer } } :=
    PerDir.ext_get fun d => by rw [tmo d]; cases d <;> rfl
  rw [← records]
  exact rest

/-- The ports after the reset of every parser (42_framer.md R130, R132). -/
theorem port_resetParsers (s : State) (q : Port) :
    (resetParsers s).port q = { s.port q with
      rxp := (s.rxp q).atBoundary
      tmo :=
        { tx := { s.tmo q .tx with
            timer :=
              if (q = .ext ∧ s.extOwner ≠ none) ∨ (Delivering (s.rxp .ext) ∧ (s.rxp .ext).dest = q) then 0
              else s.timer q .tx }
          rx := { s.tmo q .rx with timer := 0 } } } := by
  have restarted : Restarted (s.port q) ((resetParsers s).port q) := restarted_resetAll s q
  rw [restarted.eq, ← timer_tx_resetParsers, ← timer_rx_resetParsers s q, ← rxp_resetParsers]
  rfl

/-- Settles O49, by the ports and the owner after the reset of every parser. -/
theorem setBypassResetsTheParsers : Obligations.SetBypassResetsTheParsers := by
  intro s en
  refine ⟨fun same => ?_, fun other => ⟨({ resetParsers s with bypassMode := en } : State).withResult .ok, ?_, ?_, ?_⟩⟩
  · change execSetBypass en s = _
    rw [execSetBypass, if_pos same]
    rfl
  · change execSetBypass en s = _
    rw [execSetBypass, if_neg other]
    rfl
  · have reset := withResult_of_coreFrame (coreFrame_resetParsers s) (sameFaults_resetParsers s) .ok
    rw [resetParsers_extOwner, resetParsers_mon] at reset
    exact congrArg (fun t : State => { t with bypassMode := en }) reset
  · exact fun q => (State.withResult_port _ _ q).trans (port_resetParsers s q)

end Sys2Proof.Machine
end

section
/-!
PROOF. When CORE_RX is enabled, and that a step which is takes something (42_framer.md R129).
-/

namespace Sys2Proof.Machine

/-! ## The enabling -/

theorem isSome_ite_some {α : Type} (c : Prop) [Decidable c] (x : α) :
    (if c then some x else none).isSome = decide c := by
  split
  next yes => simp [yes]
  next no => simp [no]

/-- On a first byte the step is enabled as its class says (42_framer.md R115 to R119). -/
theorem isSome_boundaryStep (s : State) (p : Port) (b : Byte) :
    (boundaryStep s p b).isSome = classFits s p (classify s.prm.typeMap p b) := by
  cases cls : classify s.prm.typeMap p b <;> simp only [boundaryStep, cls, classFits]
  case keepalive => rfl
  case escape h => rw [escapeStep_eq, isSome_ite_some]
  case frameStart h sh => rw [frameStartStep_eq]; rfl
  case undefined =>
    obtain rfl | ⟨h, rfl⟩ := ext_or_hostPort p
    · exact (congrArg Option.isSome (undefinedExtStep_eq s b)).trans (isSome_ite_some _ _)
    · rw [Bool.eq_iff_iff]
      simp only [asHost_hostPort, undefinedHostStep_eq, isSome_ite_some, if_neg (hostPort_ne_ext h),
        decide_eq_true_eq, Bool.and_eq_true, Option.isNone_iff_eq_none]

/-- A header byte is held, or it is the last and the header fits with the path free (42_framer.md R121). -/
theorem isSome_headerStep (s : State) (p : Port) (b : Byte) :
    (headerStep s p b).isSome = true ↔
      (s.rxp p).hdr.length + 1 < hdrLen (s.rxp p).shape ∨
      (s.rxp p).hdr.length + 1 = hdrLen (s.rxp p).shape ∧ Room s (s.rxp p).dest (hdrLen (s.rxp p).shape) ∧
        ((s.rxp p).dest = .ext → s.extOwner = none) := by
  by_cases short : (s.rxp p).hdr.length + 1 < hdrLen (s.rxp p).shape
  · rw [headerStep_of_short b short]
    exact iff_of_true rfl (.inl short)
  · by_cases last : (s.rxp p).hdr.length + 1 = hdrLen (s.rxp p).shape
    · rw [headerStep_of_last b last, isSome_ite_some, decide_eq_true_eq, headerFits_iff]
      exact ⟨fun fits => .inr ⟨last, fits⟩, fun h => (h.resolve_left short).2⟩
    · have stuck : headerStep s p b = none := by simp [headerStep, short, last]
      rw [stuck]
      exact iff_of_false nofun fun h => h.elim short fun h => last h.1

theorem isSome_trailerRxStep (s : State) (b : Byte) : (trailerRxStep s b).isSome = true := by
  unfold trailerRxStep
  dsimp only
  split <;> rfl

/-- With a byte at hand the step is enabled as the phase says (42_framer.md R121, R122, R125). -/
theorem isSome_byteStep (s : State) (p : Port) (b : Byte) : (byteStep s p b).isSome = byteFits s p b := by
  cases phase : (s.rxp p).phase <;> simp only [byteStep, byteFits, phase]
  case boundary => exact isSome_boundaryStep s p b
  case header =>
    rw [Bool.eq_iff_iff, isSome_headerStep]
    simp only [Bool.or_eq_true, Bool.and_eq_true, decide_eq_true_eq, Option.isNone_iff_eq_none, and_assoc,
      ne_eq, imp_iff_not_or]
  case payload => rw [payloadStep_eq, isSome_ite_some]
  case crc => exact isSome_trailerRxStep s b

theorem isSome_passThrough (s : State) (p q : Port) :
    (passThrough s p q).isSome = (!(s.rxFifo p).isEmpty && decide (Room s q 1)) := by
  cases fifo : s.rxFifo p with
  | nil => rw [passThrough_of_empty fifo]; rfl
  | cons b rest => rw [passThrough_of_head (by rw [fifo]; rfl), isSome_ite_some]; rfl

/-- Unless a host's trailer is due, a framed stream needs a byte (42_framer.md R129). -/
theorem framedStep_of_takes {s : State} {p : Port} (takes : ¬ (p ≠ .ext ∧ (s.rxp p).phase = .crc)) :
    (s.rxFifo p = [] → framedStep s p = none) ∧
    ∀ b rest, s.rxFifo p = b :: rest → framedStep s p = byteStep s p b := by
  unfold framedStep
  split
  next h host phase => exact absurd ⟨by rw [asHost_eq_some.mp host]; exact hostPort_ne_ext h, phase⟩ takes
  next => exact ⟨fun fifo => by rw [fifo], fun b rest fifo => by rw [fifo]⟩

theorem isSome_framedStep {s : State} (gate : s.pgState ≠ .idle) (framed : s.bypassMode = false) (p : Port) :
    (framedStep s p).isSome = coreEnabled s p := by
  by_cases trailer : p ≠ .ext ∧ (s.rxp p).phase = .crc
  · obtain ⟨host, phase⟩ := trailer
    obtain ⟨h, rfl⟩ := (ext_or_hostPort p).resolve_left host
    have enabled : coreEnabled s (hostPort h) = decide (Room s .ext 2) := by simp [coreEnabled, gate, framed, phase]
    rw [framedStep, asHost_hostPort, phase, enabled]
    exact (congrArg Option.isSome (trailerStep_eq s h)).trans (isSome_ite_some _ _)
  · obtain ⟨empty, byte⟩ := framedStep_of_takes trailer
    cases fifo : s.rxFifo p with
    | nil =>
      rw [empty fifo]
      simp [coreEnabled, framed, trailer, fifo]
    | cons b rest =>
      have enabled : coreEnabled s p = byteFits s p b := by simp [coreEnabled, gate, framed, trailer, fifo]
      rw [byte b rest fifo, enabled, isSome_byteStep]

theorem isSome_bypassStep {s : State} (gate : s.pgState ≠ .idle) (bypass : s.bypassMode = true) (p : Port) :
    (bypassStep s p).isSome = coreEnabled s p := by
  cases p with
  | h0 =>
    refine (isSome_passThrough s .h0 .ext).trans ?_
    cases fifo : s.rxFifo .h0 <;> simp [coreEnabled, gate, bypass, fifo]
  | h1 => simp [bypassStep, coreEnabled, bypass]
  | h2 => simp [bypassStep, coreEnabled, bypass]
  | ext =>
    refine (isSome_passThrough s .ext .h0).trans ?_
    cases fifo : s.rxFifo .ext <;> simp [coreEnabled, gate, bypass, fifo]

/-- The hub core steps exactly where 42_framer.md R129 enables it. -/
theorem isSome_coreStep (s : State) (p : Port) : (coreStep s p).isSome = coreEnabled s p := by
  by_cases idle : s.pgState = .idle
  · rw [coreStep, if_pos idle]
    simp [coreEnabled, idle]
  · rw [coreStep, if_neg idle]
    cases bypass : s.bypassMode with
    | true => exact isSome_bypassStep idle bypass p
    | false => exact isSome_framedStep idle bypass p

/-! ## What a step takes -/

/-- A byte that passes is taken from its FIFO (42_framer.md R131). -/
theorem rxFifo_ne_of_passThrough {s t : State} {p q : Port} (e : passThrough s p q = some t) :
    t.rxFifo p ≠ s.rxFifo p := by
  cases fifo : s.rxFifo p with
  | nil => rw [passThrough_of_empty fifo] at e; cases e
  | cons b rest =>
    rw [passThrough_of_head (by rw [fifo]; rfl)] at e
    split at e <;> cases e
    have taken : ((consume s p).pushTx q b).rxFifo p = rest := by
      rw [State.rxFifo, port_consume_pushTx]
      simp [movedPort, fifo]
    rw [taken]
    exact (List.cons_ne_self b rest).symm

/-- The step on a byte at hand takes it; only the step on a host's trailer needs none (42_framer.md R129). -/
theorem CoreCase.rxFifo {s t : State} {p : Port} (h : CoreCase s p t) :
    t.rxFifo p = (s.rxFifo p).tail ∨ asHost p ≠ none ∧ (s.rxp p).phase = .crc := by
  cases h with
  | sealed g l host phase room owner faults ports => exact .inr ⟨by simp [host], phase⟩
  | _ => left; rw [State.rxFifo, ‹∀ q, t.port q = _› p]; exact if_pos rfl

/-- The trailer of a host's frame goes into External's FIFO (42_framer.md R124). -/
theorem txFifo_of_trailerStep {s t : State} {h : HostPort} (e : trailerStep s h = some t) :
    t.txFifo .ext = s.txFifo .ext ++ crcTrailer (s.rxp (hostPort h)).crc := by
  rw [trailerStep_eq] at e
  split at e <;> cases e
  simp only [State.txFifo, trailerSealed, State.setMon_port, port_completeFrame, port_trailerSent, if_true]

/-- No step of the hub core leaves every port as it was: a byte is taken or a trailer written. -/
theorem ports_ne_of_coreStep {s t : State} {p : Port} (e : coreStep s p = some t) : t.ports ≠ s.ports := by
  intro same
  have port : ∀ q, t.port q = s.port q := fun q => by rw [State.port, same]; rfl
  have case := coreCase_of_coreStep e
  obtain ⟨-, ⟨-, bypass⟩ | ⟨-, g, -, -, trailer⟩ | ⟨-, takes, b, rest, fifo, -⟩⟩ := coreStep_cases e
  · have passed : ∃ q, passThrough s p q = some t := by
      cases p with
      | h0 => exact ⟨.ext, bypass⟩
      | h1 => cases bypass
      | h2 => cases bypass
      | ext => exact ⟨.h0, bypass⟩
    obtain ⟨q, passed⟩ := passed
    exact rxFifo_ne_of_passThrough passed (by rw [State.rxFifo, port])
  · have written := txFifo_of_trailerStep trailer
    rw [State.txFifo, port, crcTrailer_eq] at written
    simp at written
  · obtain taken | ⟨host, phase⟩ := case.rxFifo
    · rw [State.rxFifo, port, fifo, List.tail_cons] at taken
      exact List.cons_ne_self b rest (fifo.symm.trans taken)
    · exact takes.elim host fun off => off phase

/-- Settles O39: the step is enabled by `isSome_coreStep`, and takes something by `ports_ne_of_coreStep`. -/
theorem coreStepsWhenEnabled : Obligations.CoreStepsWhenEnabled := by
  intro s p
  rw [← isSome_coreStep, exec_coreRx]
  cases e : coreStep s p with
  | none => exact ⟨nofun, fun _ => rfl⟩
  | some t => exact ⟨fun _ => ⟨t.withResult .none, rfl, rfl, ports_ne_of_coreStep (t := t) e⟩, nofun⟩

end Sys2Proof.Machine
end

section
/-!
PROOF. The two safety statements of the framing family: External's path while a host's frame owns it (42_framer.md R120),
and the absence of CRC errors where External's frames carry no trailer (42_framer.md R135).
-/

namespace Sys2Proof.Machine

/-! ## Without trailers -/

/-- External's parser waits for a trailer only where its frames carry one (42_framer.md R123, R125). -/
theorem Framed.ext_not_crc {s : State} (h : Framed s) (trailers : s.prm.extRxCrc = false) :
    (s.rxp .ext).phase ≠ .crc := by
  intro phase
  obtain ⟨-, -, -, -, carries⟩ := (h.parser .ext).crc phase
  rw [carries rfl] at trailers
  cases trailers

/-- A CRC error is counted by CORE_RX of External on a trailer only (42_framer.md R127). -/
theorem EventEffect.crcErrCount_eq {s t : State} {i : Instr} (h : EventEffect s i t)
    (no_trailer : (s.rxp .ext).phase ≠ .crc) (p : Port) :
    (t.port p).crcErrCount = (s.port p).crcErrCount := by
  by_contra counted
  obtain rfl := (h.portEffect p).portWritten.crcErr counted
  cases h with
  | nothing => exact counted rfl
  | core i q t runs step =>
    obtain same | ⟨rfl, phase, -⟩ := ((coreCase_of_coreStep step).corePort p).crcErr
    · exact counted same
    · exact no_trailer phase

/-- Settles O54: the cause of a CRC error is a trailer (`EventEffect.bit_raised`), and External's parser never waits for
one. -/
theorem noCrcErrorsWithoutTrailers : Obligations.NoCrcErrorsWithoutTrailers := by
  intro s t i p inv trailers e
  obtain ⟨u, r, effect, rfl⟩ := exec_hasEffect e
  have no_trailer := ((frameInv_iff s).mp inv).1.ext_not_crc trailers
  refine ⟨effect.crcErrCount_eq no_trailer p, fun on => ?_⟩
  by_contra off
  obtain ⟨-, -, phase, -⟩ := effect.bit_raised (eq_false_of_ne_true off) on
  exact no_trailer phase

/-! ## Who writes to External's path -/

section
variable {s t : State} {p : Port} {b : Byte}

/-- On an owned path no first byte goes to External (42_framer.md R119). -/
theorem txFifo_ext_of_boundaryStep (owned : s.extOwner ≠ none) (e : boundaryStep s p b = some t) :
    t.txFifo .ext = s.txFifo .ext := by
  have moved : ∀ (q : Port) (d : Option Port) (l : List Byte), d ≠ some .ext →
      (movedPort s q d l .ext).txFifo = s.txFifo .ext := fun q d l away => if_neg away
  unfold boundaryStep at e
  split at e
  next =>
    rw [keepaliveStep_eq] at e
    cases e
    rw [State.txFifo, State.setMon_port, port_consume_eq]
    exact moved .ext none [] nofun
  next h _ =>
    rw [escapeStep_eq] at e
    split at e <;> cases e
    rw [State.txFifo, State.setMon_port, port_consume_pushTx]
    exact moved .ext (some (hostPort h)) [b] (by simp)
  next h sh _ =>
    rw [frameStartStep_eq] at e
    cases e
    rw [State.txFifo, State.setMon_port, framePorts_frameStart]
    exact moved p none [] nofun
  next =>
    split at e
    next h _ =>
      rw [undefinedHostStep_eq, if_neg fun fits => owned fits.1] at e
      cases e
    next =>
      rw [undefinedExtStep_eq] at e
      split at e <;> cases e
      rw [State.txFifo, State.setMon_port, undefinedForwarded, raiseFault_port, port_consume_pushTx]
      exact moved .ext (some .h0) [b] (by simp)

/-- A rule that writes toward `d` leaves the other TX FIFOs. -/
theorem FramePorts.txFifo_ne {d : Option Port} {l : List Byte} {r : Parser} {tm : Port → PerDir TimeoutRec}
    (h : FramePorts s t p d l r tm) {q : Port} (other : d ≠ some q) : t.txFifo q = s.txFifo q := by
  rw [State.txFifo, h q]
  exact if_neg other

@[simp] theorem completeFrame_port_txFifo (s : State) (p q : Port) :
    ((completeFrame s p).port q).txFifo = (s.port q).txFifo := by
  rw [port_completeFrame]

@[simp] theorem afterPayload_port_txFifo (s : State) (p q : Port) :
    ((afterPayload s p).port q).txFifo = (s.port q).txFifo := by
  unfold afterPayload
  split <;> simp

/-- A header goes to its destination, which is External only where the path is free (42_framer.md R121). -/
theorem txFifo_ext_of_headerStep (owned : s.extOwner ≠ none) (e : headerStep s p b = some t) :
    t.txFifo .ext = s.txFifo .ext := by
  obtain short | ⟨last, -, free⟩ := (isSome_headerStep s p b).mp (by rw [e]; rfl)
  · rw [headerStep_of_short b short] at e
    cases e
    rw [State.txFifo, State.setMon_port]
    exact (framePorts_headerHeld s p b).txFifo_ne nofun
  · have away : some (s.rxp p).dest ≠ some .ext := fun toExt => owned (free (Option.some.inj toExt))
    have written := (framePorts_headerWritten (s := s) (p := p) (b := b) rfl rfl).txFifo_ne away
    rw [headerStep_of_last b last] at e
    split at e <;> cases e
    rw [headerLast_eq rfl rfl, ← written]
    split <;> simp [State.txFifo]

/-- A payload byte goes to the destination of its frame (42_framer.md R122). -/
theorem txFifo_ext_of_payloadStep (away : (s.rxp p).dest ≠ .ext) (e : payloadStep s p b = some t) :
    t.txFifo .ext = s.txFifo .ext := by
  have written := (framePorts_payloadWritten s p b).txFifo_ne (q := .ext) fun toExt => away (Option.some.inj toExt)
  rw [payloadStep_eq] at e
  split at e <;> cases e
  rw [← written, payloadTaken]
  split <;> simp [State.txFifo]

/-- A received trailer is forwarded to no one (42_framer.md R125). -/
theorem txFifo_of_trailerRxStep (e : trailerRxStep s b = some t) (q : Port) : t.txFifo q = s.txFifo q := by
  have taken := (framePorts_trailerTake s b).txFifo_ne (q := q) nofun
  rw [← taken]
  unfold trailerRxStep at e
  dsimp only at e
  split at e
  · split at e <;> cases e <;> simp [State.txFifo, port_crcFail]
  · cases e
    simp [State.txFifo]

end

/-- While the path is owned, the frame of its owner is the only one that goes to External: no other host is delivering
(`OwnerInv`), and External's own frames go to hosts (42_framer.md R120). -/
theorem txFifo_ext_of_coreStep {s t : State} {p : Port} {h : HostPort} (inv : Framed s) (owned : s.extOwner = some h)
    (other : p ≠ hostPort h) (e : coreStep s p = some t) : t.txFifo .ext = s.txFifo .ext := by
  have taken : s.extOwner ≠ none := by simp [owned]
  have delivering : Delivering (s.rxp (hostPort h)) := (inv.owner h).mp owned
  have framed : s.bypassMode = false := (inv.parser (hostPort h)).framed fun boundary => by
    simp [Delivering, boundary] at delivering
  have waits : ∀ g, p = hostPort g → ¬ Delivering (s.rxp p) := by
    rintro g rfl del
    rw [← inv.owner g, owned] at del
    exact other (congrArg hostPort (Option.some.inj del).symm)
  obtain ⟨-, ⟨bypass, -⟩ | ⟨-, g, host, phase, -⟩ | ⟨-, takes, b, rest, -, byte⟩⟩ := coreStep_cases e
  · rw [framed] at bypass
    cases bypass
  · exact absurd (.inr phase) (waits g (asHost_eq_some.mp host))
  · unfold byteStep at byte
    split at byte
    next => exact txFifo_ext_of_boundaryStep taken byte
    next => exact txFifo_ext_of_headerStep taken byte
    next phase =>
      refine txFifo_ext_of_payloadStep (fun toExt => ?_) byte
      have host : p ≠ .ext := ((inv.parser p).dest (by simp [phase])).mp toExt
      obtain ⟨g, hg⟩ := (ext_or_hostPort p).resolve_left host
      exact waits g hg (.inl phase)
    next => exact txFifo_of_trailerRxStep byte .ext

/-! ## How the ownership ends -/

/-- The path has the owner it had, or is free. -/
def KeptOrFreed (s t : State) : Prop := t.extOwner = s.extOwner ∨ t.extOwner = none

theorem KeptOrFreed.refl (s : State) : KeptOrFreed s s := .inl rfl

theorem KeptOrFreed.trans {s t u : State} (h : KeptOrFreed s t) (h' : KeptOrFreed t u) : KeptOrFreed s u := by
  obtain same | free := h'
  · exact h.imp same.trans same.trans
  · exact .inr free

theorem keptOrFreed_parserReset (s : State) (p : Port) : KeptOrFreed s (parserReset s p) := by
  rw [KeptOrFreed, parserReset_extOwner]
  exact (ite_eq_or_eq _ _ _).symm

theorem keptOrFreed_recoverPort (s : State) (p : Port) : KeptOrFreed s (recoverPort s p) := by
  rw [KeptOrFreed, recoverPort_extOwner]
  exact (ite_eq_or_eq _ _ _).symm

theorem keptOrFreed_expire (s : State) (p : Port) (d : Dir) : KeptOrFreed s (expire s p d) := by
  have counts : KeptOrFreed s (counted s p d) := .inl rfl
  rw [expire_eq]
  split
  · obtain ⟨same, -⟩ | ⟨r, reset, -⟩ := resync_cases (counted s p d) p d
    · rw [same]; exact counts
    · rw [reset]; exact counts.trans (keptOrFreed_parserReset _ r)
  · exact counts

theorem keptOrFreed_superviseOne (s : State) (p : Port) (d : Dir) : KeptOrFreed s (superviseOne s p d) := by
  obtain ⟨-, h⟩ | ⟨-, -, -, h⟩ | ⟨-, h⟩ := superviseOne_cases s p d <;> rw [h]
  · exact keptOrFreed_expire s p d
  · exact .inl rfl
  · exact .inl rfl

theorem keptOrFreed_supervise (s : State) : KeptOrFreed s (supervise s) :=
  foldl_rel KeptOrFreed.refl KeptOrFreed.trans
    (fun s p => (keptOrFreed_superviseOne s p .rx).trans (keptOrFreed_superviseOne _ p .tx)) allPorts s

theorem keptOrFreed_xoffPoll (s : State) : KeptOrFreed s (xoffPoll s) := by
  obtain h | ⟨-, h⟩ | h := xoffPoll_cases s <;> rw [h]
  · exact .inl rfl
  · exact .inl rfl
  · have recovered : KeptOrFreed s (recovery s) :=
      foldl_rel KeptOrFreed.refl KeptOrFreed.trans keptOrFreed_recoverPort allPorts s
    rwa [KeptOrFreed, State.setPoll_extOwner]

/-- A tick gives the path to no one (43_timeout.md R148, 45_flowcontrol.md R191). -/
theorem keptOrFreed_tickState (s : State) (a : Ack) : KeptOrFreed s (tickState s a) := by
  have gate : KeptOrFreed s (tickGate s a) := .inl rfl
  obtain h | h := tickState_cases s a <;> rw [h]
  · exact gate
  · exact gate.trans ((keptOrFreed_supervise _).trans (keptOrFreed_xoffPoll _))

/-- Of the steps of the hub core only the owner's trailer ends the ownership (42_framer.md R120, R129). -/
theorem CoreCase.ownership {s t : State} {p : Port} {h : HostPort} (case : CoreCase s p t) (inv : OwnerInv s)
    (owned : s.extOwner = some h) :
    t.extOwner = some h ∨ t.extOwner = none ∧ p = hostPort h ∧ (s.rxp (hostPort h)).phase = .crc := by
  cases case with
  | header b l n ph phase bytes length room free next owner faults ports =>
    rw [owner]
    split
    next toExt => rw [free toExt] at owned; cases owned
    next => exact .inl owned
  | sealed g l host phase room owner faults ports =>
    subst host
    have same : some g = some h := ((inv g).mpr (.inr phase)).symm.trans owned
    cases same
    exact .inr ⟨owner, rfl, phase⟩
  | _ => exact .inl (‹t.extOwner = s.extOwner›.trans owned)

/-- The four ends of an ownership, over every event. -/
theorem EventEffect.ownership {s t : State} {i : Instr} {h : HostPort} (effect : EventEffect s i t) (inv : OwnerInv s)
    (owned : s.extOwner = some h) :
    t.extOwner = some h ∨
      (t.extOwner = none ∧
        ((i = .coreRx (hostPort h) ∧ (s.rxp (hostPort h)).phase = .crc) ∨ i = .resetPort (hostPort h) ∨
          (∃ en, i = .setBypass en) ∨ ∃ a, i = .tick a)) := by
  cases effect with
  | setBypass en =>
    have free : (allPorts.foldl parserReset s).extOwner = none := resetParsers_extOwner s
    exact .inr ⟨free, .inr (.inr (.inl ⟨en, rfl⟩))⟩
  | tick a =>
    obtain same | free := keptOrFreed_tickState s a
    · exact .inl (same.trans owned)
    · exact .inr ⟨free, .inr (.inr (.inr ⟨a, rfl⟩))⟩
  | resetPort p =>
    rw [portReset_extOwner, owned]
    split
    next mine => exact .inr ⟨rfl, .inr (.inl (congrArg _ (asHost_eq_some.mp mine.2.symm)))⟩
    next => exact .inl rfl
  | core i p t runs step =>
    obtain same | ⟨free, rfl, phase⟩ := (coreCase_of_coreStep step).ownership inv owned
    · exact .inl same
    · exact .inr ⟨free, .inl ⟨runs.eq_coreRx (by simp [phase]), phase⟩⟩
  | _ => exact .inl (by simp [owned])

/-- Settles O51: the writers by `txFifo_ext_of_coreStep`, the ends by `EventEffect.ownership`. -/
theorem ownedPathIsExclusive : Obligations.OwnedPathIsExclusive := by
  intro s t i h inv owned e
  have framed := ((frameInv_iff s).mp inv).1
  refine ⟨?_, ?_⟩
  · rintro p other rfl
    rw [exec_coreRx] at e
    cases step : coreStep s p with
    | none => rw [step] at e; cases e; rfl
    | some u => rw [step] at e; cases e; exact txFifo_ext_of_coreStep (t := u) framed owned other step
  · obtain ⟨u, r, effect, rfl⟩ := exec_hasEffect e
    exact effect.ownership framed.owner owned

end Sys2Proof.Machine
end

section
/-!
PROOF. A whole frame, byte by byte (42_framer.md R134): the statements about the single bytes of a frame (R115, R121,
R122) composed into what the frame has left when its payload is through, from either source; then the trailer, generated
toward External (R124) and checked from External (R125 to R127).
-/

namespace Sys2Proof.Machine

/-! ## Runs of events -/

theorem runEvents_append (l l' : List Instr) (s : State) :
    runEvents (l ++ l') s = (runEvents l s).bind (runEvents l') := by
  induction l generalizing s with
  | nil => rfl
  | cons i l ih =>
    rw [List.cons_append, runEvents, runEvents]
    cases exec i s with
    | next t => exact ih t
    | fault => rfl
    | refused => rfl

theorem runEvents_of_next {i : Instr} {s t : State} (e : exec i s = .next t) : runEvents [i] s = some t := by
  rw [runEvents, e]; rfl

theorem runEvents_append_of_some {l l' : List Instr} {s t u : State} (first : runEvents l s = some t)
    (rest : runEvents l' t = some u) : runEvents (l ++ l') s = some u := by
  rw [runEvents_append, first]; exact rest

theorem frameEvents_append (p : Port) (l l' : List Byte) :
    frameEvents p (l ++ l') = frameEvents p l ++ frameEvents p l' :=
  List.flatMap_append

/-! ## The CRC of a growing list (41_crc.md R106, R109) -/

theorem crcFold_append (c : Word16) (l l' : List Byte) : crcFold c (l ++ l') = crcFold (crcFold c l) l' := by
  induction l generalizing c with
  | nil => rfl
  | cons b l ih => exact ih (crcUpdate c b)

theorem crc16_append_singleton (l : List Byte) (b : Byte) : crc16 (l ++ [b]) = crcUpdate (crc16 l) b :=
  crcFold_append crcInit l [b]

/-- Two bytes are the trailer of a CRC exactly if they carry it, low byte first (41_crc.md R108). -/
theorem crcTrailer_eq_iff (c : Word16) (t0 t1 : Byte) : crcTrailer c = [t0, t1] ↔ crcOfTrailer t0 t1 = c := by
  refine ⟨crcOfTrailer_of_crcTrailer_eq, ?_⟩
  rintro rfl
  have low : (t1 ++ t0).extractLsb' 0 8 = t0 := BitVec.extractLsb'_append_eq_right
  have high : (t1 ++ t0).extractLsb' 8 8 = t1 := BitVec.extractLsb'_append_eq_left
  exact congrArg₂ (fun x y => [x, y]) low high

/-! ## How far a frame has come -/

/-- What a frame in progress occupies: the bytes at hand, those written to the destination, the parser of the source and
the owner of External's path. -/
structure Stage where
  queue : List Byte
  out : List Byte
  parser : Parser
  owner : Option HostPort

/-- State `u` has brought a frame from `p` to `d`, which state `s` had not seen, to stage `g`; nothing else of the two
ports' counts and of the faults has changed. -/
structure Midframe (s : State) (p d : Port) (g : Stage) (u : State) : Prop where
  prm : u.prm = s.prm
  gate : u.pgState ≠ .idle
  framed : u.bypassMode = false
  bitmap : u.faultBitmap = s.faultBitmap
  queue : u.rxFifo p = g.queue
  out : u.txFifo d = s.txFifo d ++ g.out
  parser : u.rxp p = g.parser
  owner : u.extOwner = g.owner
  crcErr : (u.port d).crcErrCount = (s.port d).crcErrCount
  received : (u.tmo p .rx).packetCount = (s.tmo p .rx).packetCount
  sent : (u.tmo d .tx).packetCount = (s.tmo d .tx).packetCount

/-- The bytes `l`, each received on the line of `p` and then taken, bring a frame from stage `g` to stage `g'`. -/
def Carries (s : State) (p d : Port) (l : List Byte) (g g' : Stage) : Prop :=
  ∀ u, Midframe s p d g u → ∃ t, runEvents (frameEvents p l) u = some t ∧ Midframe s p d g' t

section
variable {s : State} {p d : Port}

theorem Carries.nil (g : Stage) : Carries s p d [] g g := fun u mid => ⟨u, rfl, mid⟩

theorem Carries.append {l l' : List Byte} {g g' g'' : Stage} (h : Carries s p d l g g') (h' : Carries s p d l' g' g'') :
    Carries s p d (l ++ l') g g'' := by
  intro u mid
  obtain ⟨t, run, mid'⟩ := h u mid
  obtain ⟨v, run', mid''⟩ := h' t mid'
  exact ⟨v, by rw [frameEvents_append]; exact runEvents_append_of_some run run', mid''⟩

theorem Midframe.atByte {g : Stage} {u : State} (mid : Midframe s p d g u) {b : Byte} (queue : g.queue = [b]) :
    AtByte u p b :=
  ⟨mid.gate, mid.framed, by rw [mid.queue, queue]; rfl⟩

theorem Midframe.room {g : Stage} {u : State} (mid : Midframe s p d g u) {n : Nat}
    (room : Room s d (g.out.length + n)) : Room u d n := by
  rw [Room, mid.out, mid.prm, List.length_append]
  omega

/-- With room the byte is stored: of a port's record only the RX FIFO, its count and the XOFF level change
(40_port_fifo.md R91). -/
theorem port_lineInject_of_room {u : State} {p : Port} (awake : u.pgState ≠ .idle)
    (room : (u.rxFifo p).length + 1 ≤ u.prm.fifoDepth) (b : Byte) (q : Port) :
    ∃ n x, (lineInject u p b).port q = { u.port q with
      rxFifo := if q = p then u.rxFifo q ++ [b] else u.rxFifo q, rxByteCount := n, xoffAsserted := x } := by
  rw [lineInject_of_room awake room, State.port_setPort]
  split
  next here => subst here; exact ⟨_, _, rfl⟩
  next => exact ⟨_, _, rfl⟩

theorem Midframe.inc_eq {g : Stage} {u : State} (mid : Midframe s p d g u) (n : Nat) : u.inc n = s.inc n := by
  rw [State.inc, State.inc, mid.prm]

/-- A byte arriving on the line of the source is at hand, and the frame stands as it stood (40_port_fifo.md R91). -/
theorem Midframe.arrived {g : Stage} {u : State} (mid : Midframe s p d g u) (depth : 1 ≤ s.prm.fifoDepth)
    (empty : g.queue = []) (b : Byte) :
    Midframe s p d { g with queue := [b] } ((lineInject u p b).withResult .none) := by
  have fifo : u.rxFifo p = [] := mid.queue.trans empty
  have room : (u.rxFifo p).length + 1 ≤ u.prm.fifoDepth := by rw [fifo, mid.prm]; exact depth
  obtain ⟨n, x, source⟩ := port_lineInject_of_room mid.gate room b p
  obtain ⟨n', x', dest⟩ := port_lineInject_of_room mid.gate room b d
  exact {
    prm := (lineInject_prm u p b).trans mid.prm
    gate := by rw [State.pgState, State.withResult_pg, lineInject_pg]; exact mid.gate
    framed := (lineInject_bypassMode u p b).trans mid.framed
    bitmap := (lineInject_faultBitmap u p b).trans mid.bitmap
    queue := by rw [State.rxFifo, State.withResult_port, source, fifo]; exact if_pos rfl
    out := by rw [State.txFifo, State.withResult_port, dest]; exact mid.out
    parser := by rw [State.rxp, State.withResult_port, source]; exact mid.parser
    owner := (lineInject_extOwner u p b).trans mid.owner
    crcErr := by rw [State.withResult_port, dest]; exact mid.crcErr
    received := by rw [State.tmo, State.withResult_port, source]; exact mid.received
    sent := by rw [State.tmo, State.withResult_port, dest]; exact mid.sent }

/-- One byte carries the frame on if the hub core's step on it, at hand, does. -/
theorem Carries.of_step {g g' : Stage} {b : Byte} (depth : 1 ≤ s.prm.fifoDepth) (empty : g.queue = [])
    (step : ∀ v, Midframe s p d { g with queue := [b] } v →
      ∃ t, exec (.coreRx p) v = .next t ∧ Midframe s p d g' t) : Carries s p d [b] g g' := by
  intro u mid
  obtain ⟨t, core, mid'⟩ := step _ (mid.arrived depth empty b)
  have run : runEvents ([.lineIn p b] ++ [.coreRx p]) u = some t :=
    runEvents_append_of_some (runEvents_of_next (exec_lineIn u p b)) (runEvents_of_next core)
  exact ⟨t, run, mid'⟩

/-- A step of the hub core on the frame brings it to a new stage: the byte is taken, `l` is written toward `d` or nothing
is, the parser and the owner are new. -/
theorem Midframe.taken {g : Stage} {v t : State} {w e : Option Port} {l : List Byte} {r : Parser}
    {o : Option HostPort} {m : Monitor} (mid : Midframe s p d g v)
    (rest : t = { v with ports := t.ports, extOwner := o, mon := m, result := .none })
    (ports : FramePorts v t p w l r (restartedTimers v p e)) (toward : w = some d ∨ w = none ∧ l = []) :
    Midframe s p d { queue := g.queue.tail, out := g.out ++ l, parser := r, owner := o } t := by
  have out : t.txFifo d = v.txFifo d ++ l := by
    obtain rfl | ⟨rfl, rfl⟩ := toward
    · rw [State.txFifo, ports d]
      exact if_pos rfl
    · rw [List.append_nil]
      exact ports.txFifo_ne nofun
  have queue : t.rxFifo p = (v.rxFifo p).tail := by rw [State.rxFifo, ports p]; exact if_pos rfl
  have gate : t.pgState = v.pgState := by rw [rest]
  exact {
    prm := (congrArg State.prm rest).trans mid.prm
    gate := gate ▸ mid.gate
    framed := (congrArg State.bypassMode rest).trans mid.framed
    bitmap := (congrArg State.faultBitmap rest).trans mid.bitmap
    queue := by rw [queue, mid.queue]
    out := by rw [out, mid.out, List.append_assoc]
    parser := ports.rxp_self
    owner := congrArg State.extOwner rest
    crcErr := by rw [ports d]; exact mid.crcErr
    received := by rw [State.tmo, ports.tmo]; exact mid.received
    sent := by rw [State.tmo, ports.tmo]; exact mid.sent }

end

/-! ## From the type byte to the end of the payload -/

/-- Before the first byte. -/
def startStage (s : State) (p : Port) : Stage := ⟨[], [], s.rxp p, s.extOwner⟩

/-- The header bytes `held` have been received. -/
def headerStage (s : State) (p d : Port) (sh : Shape) (held : List Byte) : Stage where
  queue := []
  out := []
  parser := { s.rxp p with phase := .header, hdr := held, shape := sh, dest := d, crc := 0xFFFF }
  owner := s.extOwner

/-- The header and the payload bytes in `out` have been forwarded, and `n` payload bytes are to come. -/
def bodyStage (s : State) (p d : Port) (sh : Shape) (out : List Byte) (n : Nat) : Stage where
  queue := []
  out := out
  parser := { s.rxp p with
    phase := if 1 ≤ n then .payload else .crc, hdr := [], shape := sh, dest := d, crc := crc16 out, remain := n }
  owner := if d = .ext then asHost p else s.extOwner

theorem midframe_start {s : State} {p : Port} (d : Port) (gate : s.pgState ≠ .idle) (framed : s.bypassMode = false)
    (fifo : s.rxFifo p = []) : Midframe s p d (startStage s p) s :=
  ⟨rfl, gate, framed, rfl, fifo, (List.append_nil _).symm, rfl, rfl, rfl, rfl, rfl⟩

section
variable {s : State} {p d : Port} {sh : Shape}

theorem carries_typeByte {b : Byte} {h : HostPort} {src : FrameSource} (hm : s.prm.typeMap.Wf)
    (depth : 1 ≤ s.prm.fifoDepth) (boundary : (s.rxp p).phase = .boundary) (maps : s.prm.typeMap.maps b h sh)
    (source : p = src.port (hostPort h)) (dest : d = if p = .ext then hostPort h else .ext) :
    Carries s p d [b] (startStage s p) (headerStage s p d sh [b]) := by
  refine .of_step depth rfl fun v mid => ?_
  have at_hand : AtFirstByte v p b := ⟨mid.atByte rfl, by rw [mid.parser]; exact boundary⟩
  obtain ⟨t, core, -, rest, ports⟩ := frameStartHoldsTheTypeByte v p b h sh src (by rw [mid.prm]; exact hm) at_hand
    (by rw [mid.prm]; exact maps) source
  have parser : v.rxp p = s.rxp p := mid.parser
  rw [← dest, parser] at ports
  have next := mid.taken rest ports (.inr ⟨rfl, rfl⟩)
  rw [mid.owner] at next
  exact ⟨t, core, next⟩

theorem carries_headerByte {held : List Byte} {b : Byte} (depth : 1 ≤ s.prm.fifoDepth)
    (short : held.length + 1 < hdrLen sh) :
    Carries s p d [b] (headerStage s p d sh held) (headerStage s p d sh (held ++ [b])) := by
  refine .of_step depth rfl fun v mid => ?_
  obtain ⟨t, core, rest, ports⟩ := headerBytesAreHeld v p b (mid.atByte rfl) (by rw [mid.parser]; rfl)
    (by rw [mid.parser]; exact short)
  rw [mid.parser] at ports
  have next := mid.taken rest ports (.inr ⟨rfl, rfl⟩)
  rw [mid.owner] at next
  exact ⟨t, core, next⟩

theorem carries_headerBytes (depth : 1 ≤ s.prm.fifoDepth) (l : List Byte) :
    ∀ held : List Byte, held.length + l.length < hdrLen sh →
      Carries s p d l (headerStage s p d sh held) (headerStage s p d sh (held ++ l)) := by
  induction l with
  | nil => intro held _; rw [List.append_nil]; exact .nil _
  | cons b l ih =>
    intro held short
    rw [List.length_cons] at short
    have rest := ih (held ++ [b]) (by rw [List.length_append, List.length_singleton]; omega)
    rw [List.append_assoc] at rest
    exact (carries_headerByte depth (by omega)).append rest

theorem carries_lastHeaderByte {held l : List Byte} {b : Byte} {n : Nat} (depth : 1 ≤ s.prm.fifoDepth)
    (bytes : held ++ [b] = l) (last : l.length = hdrLen sh) (length : payloadLength sh l = n)
    (trailer : p ≠ .ext ∨ s.prm.extRxCrc = true) (room : Room s d (hdrLen sh)) (free : d = .ext → s.extOwner = none) :
    Carries s p d [b] (headerStage s p d sh held) (bodyStage s p d sh l n) := by
  refine .of_step depth rfl fun v mid => ?_
  have parser : v.rxp p = (headerStage s p d sh held).parser := mid.parser
  have count : held.length + 1 = hdrLen sh := by rw [← last, ← bytes, List.length_append]; rfl
  have forwarded := completeHeadersAreForwarded.2 v p d b l n (mid.atByte rfl) (by rw [parser]; rfl)
    (by rw [parser]; exact count) (by rw [parser]; rfl) (by rw [parser]; exact bytes)
    (by rw [parser]; exact length)
  obtain ⟨t, core, rest, more, -⟩ := forwarded.1
    (by rw [parser]; exact mid.room (by simpa [headerStage] using room))
    (fun toExt => mid.owner.trans (free toExt))
  obtain ⟨-, ports⟩ := more (.inr (by rw [mid.prm]; exact trailer))
  rw [parser] at ports
  have next := mid.taken rest ports (.inl rfl)
  rw [mid.owner] at next
  exact ⟨t, core, next⟩

theorem carries_payloadByte {out : List Byte} {b : Byte} {n : Nat} (depth : 1 ≤ s.prm.fifoDepth)
    (trailer : p ≠ .ext ∨ s.prm.extRxCrc = true) (room : Room s d (out.length + 1)) :
    Carries s p d [b] (bodyStage s p d sh out (n + 1)) (bodyStage s p d sh (out ++ [b]) n) := by
  refine .of_step depth rfl fun v mid => ?_
  have parser : v.rxp p = (bodyStage s p d sh out (n + 1)).parser := mid.parser
  have forwarded := payloadBytesAreForwarded v p d b (mid.atByte rfl) (by rw [parser]; rfl)
    (by rw [parser]; exact Nat.le_add_left 1 n) (by rw [parser]; rfl)
  obtain ⟨t, core, rest, more, -⟩ := forwarded.1 (mid.room room)
  obtain ⟨-, ports⟩ := more (.inr (by rw [mid.prm]; exact trailer))
  rw [parser] at ports
  have next := mid.taken rest ports (.inl rfl)
  rw [mid.owner] at next
  have phase : (if 1 ≤ n then Phase.payload else .crc) = if 2 ≤ n + 1 then .payload else .crc :=
    if_congr (by omega) rfl rfl
  refine ⟨t, core, ?_⟩
  rw [bodyStage, crc16_append_singleton, phase]
  exact next

theorem carries_payload (depth : 1 ≤ s.prm.fifoDepth) (trailer : p ≠ .ext ∨ s.prm.extRxCrc = true)
    (l : List Byte) :
    ∀ out : List Byte, Room s d (out.length + l.length) →
      Carries s p d l (bodyStage s p d sh out l.length) (bodyStage s p d sh (out ++ l) 0) := by
  induction l with
  | nil => intro out _; rw [List.append_nil]; exact .nil _
  | cons b l ih =>
    intro out room
    rw [List.length_cons] at room
    have rest := ih (out ++ [b]) (by rw [List.length_append, List.length_singleton]; omega)
    rw [List.append_assoc] at rest
    exact (carries_payloadByte depth trailer (by omega)).append rest

theorem exists_first_last {α : Type} {l : List α} (two : 2 ≤ l.length) : ∃ b mid e, l = [b] ++ mid ++ [e] := by
  obtain ⟨b, rest, rfl⟩ := List.exists_cons_of_length_pos (l := l) (by omega)
  obtain rfl | ⟨mid, e, rfl⟩ := List.eq_nil_or_concat' rest
  · simp at two
  · exact ⟨b, mid, e, rfl⟩

/-- A frame without its trailer is carried from its first byte to the end of its payload (42_framer.md R134): the type
byte, the other header bytes but the last, the last, and the payload. -/
theorem carries_frame {h : HostPort} {src : FrameSource} {l : List Byte} (wf : s.prm.Wf)
    (boundary : (s.rxp p).phase = .boundary) (frame : IsFrame s.prm.typeMap h l) (source : p = src.port (hostPort h))
    (dest : d = if p = .ext then hostPort h else .ext) (trailer : p ≠ .ext ∨ s.prm.extRxCrc = true)
    (room : Room s d l.length) (free : d = .ext → s.extOwner = none) :
    ∃ sh, Carries s p d l (startStage s p) (bodyStage s p d sh l 0) := by
  obtain ⟨sh, hdr, payload, rfl, full, maps, length⟩ := frame
  obtain ⟨deep, -, -, -, -, -, hm⟩ := wf
  have depth : 1 ≤ s.prm.fifoDepth := by omega
  have two := one_lt_hdrLen sh
  obtain ⟨b, held, e, rfl⟩ := exists_first_last (l := hdr) (by omega)
  have count : held.length + 2 = hdrLen sh := by simpa using full
  rw [List.length_append, full] at room
  have first := carries_typeByte (sh := sh) hm depth boundary maps source dest
  have between := carries_headerBytes (s := s) (p := p) (d := d) (sh := sh) depth held [b] (by simp; omega)
  have last := carries_lastHeaderByte depth rfl full length.symm trailer (by omega : Room s d (hdrLen sh)) free
  have body := carries_payload (sh := sh) depth trailer payload ([b] ++ held ++ [e]) (by rw [full]; exact room)
  exact ⟨sh, ((first.append between).append last).append body⟩

end

/-! ## The trailer -/

theorem frameWithCrc_eq_iff (l : List Byte) (t0 t1 : Byte) :
    l ++ [t0, t1] = frameWithCrc l ↔ t0.toNat + 256 * t1.toNat = (crc16 l).toNat := by
  rw [frameWithCrc, List.append_cancel_left_eq, eq_comm, crcTrailer_eq_iff, crcOfTrailer_eq_iff]

/-- Settles O52: the frame by `carries_frame`, and then the statement about a host's trailer. -/
theorem framesFromAHostAreSealed : Obligations.FramesFromAHostAreSealed := by
  intro s h l wf gate framed boundary fifo free frame room
  obtain ⟨sh, carries⟩ := carries_frame (p := hostPort h) (d := .ext) (src := .owner) wf boundary frame rfl
    (if_neg (hostPort_ne_ext h)).symm (.inl (hostPort_ne_ext h)) (by omega) fun _ => free
  obtain ⟨u, run, mid⟩ := carries s (midframe_start .ext gate framed fifo)
  have parser := mid.parser
  have through := trailersAreGeneratedForHosts u h (hostPort h) (crc16 l) rfl mid.gate mid.framed (by rw [parser]; rfl)
    (by rw [parser]; rfl) (by rw [parser]; rfl)
  obtain ⟨t, core, rest, ports⟩ := through.1 (mid.room room)
  have written : t.txFifo .ext = u.txFifo .ext ++ crcTrailer (crc16 l) := by
    rw [State.txFifo, ports]
    simp only [if_true]
    rfl
  refine ⟨t, runEvents_append_of_some run (runEvents_of_next core), ?_, ?_, ?_, ?_, ?_, ?_, ?_⟩
  · rw [written, mid.out, frameWithCrc, ← List.append_assoc]; rfl
  · rw [State.rxFifo, ports]; exact mid.queue
  · rw [State.rxp, ports]; exact congrArg Parser.phase (if_pos rfl)
  · rw [rest]
  · rw [rest]; exact mid.bitmap
  · rw [← mid.received, ← mid.inc_eq, State.tmo, ports]; exact if_pos rfl
  · rw [← mid.sent, ← mid.inc_eq, State.tmo, ports]
    simp only [completedTimers, PerDir.get_tx, if_true]

/-- The first trailer byte of a frame from External is taken (42_framer.md R125). -/
def trailerStage (s : State) (d : Port) (sh : Shape) (l : List Byte) (t0 : Byte) : Stage :=
  { bodyStage s .ext d sh l 0 with parser := { (bodyStage s .ext d sh l 0).parser with trailer := [t0] } }

theorem carries_trailerByte {s : State} {h : HostPort} {sh : Shape} {l : List Byte} (t0 : Byte)
    (depth : 1 ≤ s.prm.fifoDepth) (first : (s.rxp .ext).trailer = []) :
    Carries s .ext (hostPort h) [t0] (bodyStage s .ext (hostPort h) sh l 0) (trailerStage s (hostPort h) sh l t0) := by
  refine .of_step depth rfl fun v mid => ?_
  have parser : v.rxp .ext = (bodyStage s .ext (hostPort h) sh l 0).parser := mid.parser
  have checked := trailersFromExternalAreChecked v h t0 (mid.atByte rfl) (by rw [parser]; rfl) (by rw [parser]; rfl)
  obtain ⟨t, core, rest, ports⟩ := checked.1 (by rw [parser]; exact first)
  rw [parser] at ports
  have next := mid.taken rest ports (.inr ⟨rfl, rfl⟩)
  rw [mid.owner, List.append_nil] at next
  exact ⟨t, core, next⟩

/-- Settles O53: the frame by `carries_frame`, the first trailer byte by `carries_trailerByte`, and the second by the
statement about received trailers; `frameWithCrc_eq_iff` says when it agrees. -/
theorem framesFromExternalAreDelivered : Obligations.FramesFromExternalAreDelivered := by
  intro s h l t0 t1 wf trailers gate framed inv boundary fifo frame room
  obtain ⟨deep, -⟩ := id wf
  have depth : 1 ≤ s.prm.fifoDepth := by omega
  obtain ⟨-, no_trailer, -, -⟩ := inv.1 boundary
  obtain ⟨sh, carries⟩ := carries_frame (p := .ext) (d := hostPort h) (src := .external) wf boundary frame rfl
    (if_pos rfl).symm (.inr trailers) room fun toExt => absurd toExt (hostPort_ne_ext h)
  obtain ⟨u, run, mid⟩ := carries.append (carries_trailerByte t0 depth no_trailer) s
    (midframe_start (hostPort h) gate framed fifo)
  replace mid := mid.arrived depth rfl t1
  have arrives := runEvents_of_next (exec_lineIn u .ext t1)
  generalize (lineInject u .ext t1).withResult .none = v at mid arrives
  have parser : v.rxp .ext = (trailerStage s (hostPort h) sh l t0).parser := mid.parser
  have checked := trailersFromExternalAreChecked v h t1 (mid.atByte rfl) (by rw [parser]; rfl) (by rw [parser]; rfl)
  obtain ⟨t, core, rest, ports⟩ := checked.2 t0 (by rw [parser]; rfl)
  have queue : v.rxFifo .ext = [t1] := mid.queue
  have agrees : t0.toNat + 256 * t1.toNat = (v.rxp .ext).crc.toNat ↔ l ++ [t0, t1] = frameWithCrc l := by
    rw [frameWithCrc_eq_iff, parser]; rfl
  have whole : runEvents (frameEvents .ext (l ++ [t0, t1])) s = some t := by
    have bytes : l ++ [t0, t1] = (l ++ [t0]) ++ [t1] := by simp
    have last : runEvents ([.lineIn .ext t1] ++ [.coreRx .ext]) u = some t :=
      runEvents_append_of_some arrives (runEvents_of_next core)
    rw [bytes, frameEvents_append]
    exact runEvents_append_of_some run last
  have bitmap := congrArg State.faultBitmap rest
  have count := congrArg PortState.crcErrCount (ports (hostPort h))
  simp only [agrees, true_and, ne_eq] at bitmap count
  refine ⟨t, whole, ?_, ?_, ?_, fun agree => ?_, fun differ => ?_⟩
  · rw [State.txFifo, ports]; exact mid.out
  · rw [State.rxFifo, ports]
    simp only [movedPort, if_true, queue, List.tail_cons]
  · rw [State.rxp, ports]; exact congrArg Parser.phase (if_pos rfl)
  · rw [bitmap, count, if_pos agree, if_neg (not_not_intro agree)]
    exact ⟨mid.bitmap, mid.crcErr⟩
  · rw [bitmap, count, if_neg differ, if_pos differ, mid.bitmap, mid.crcErr, mid.inc_eq]
    exact ⟨rfl, rfl⟩

end Sys2Proof.Machine
end

section
/-!
SUPPORT. One iteration of the supervisor (43_timeout.md R148 to R151): what it does to its own timer, and which parser a
strict expiry resets; then its effect on each part of the state.
-/

namespace Sys2Proof.Machine

/-! ## One iteration of the supervisor, before strict mode acts -/

/-- The timer of (p, d) after its own iteration: it advances, restarts, or stands (43_timeout.md R148). -/
def ownTimer (s : State) (p : Port) (d : Dir) : Nat :=
  if s.running p d = true ∧ (s.tmo p d).timeoutEnable = true then
    if (s.tmo p d).timeoutPeriod ≤ s.timer p d + 1 then 0 else s.timer p d + 1
  else s.timer p d

/-- The iteration of (p, d) up to the point where strict mode would act (43_timeout.md R148). -/
def passed (s : State) (p : Port) (d : Dir) : State :=
  if Firing s p d then counted s p d else s.setTimer p d (ownTimer s p d)

/-- The next tick's iteration of (p, d) resets the parser of source `r` (43_timeout.md R149, R151). -/
abbrev Cuts (s : State) (p : Port) (d : Dir) (r : Port) : Prop :=
  Firing s p d ∧ (s.tmo p d).resyncEnabled = true ∧ resyncSource s p d = some r

theorem ownTimer_of_firing {s : State} {p : Port} {d : Dir} (firing : Firing s p d) : ownTimer s p d = 0 := by
  obtain ⟨run, enabled, due⟩ := firing
  rw [ownTimer, if_pos ⟨run, enabled⟩, if_pos due]

theorem ownTimer_of_not_firing {s : State} {p : Port} {d : Dir} (quiet : ¬ Firing s p d) :
    ownTimer s p d =
      if s.running p d = true ∧ (s.tmo p d).timeoutEnable = true then s.timer p d + 1 else s.timer p d := by
  unfold ownTimer
  split
  next on => exact if_neg fun due => quiet ⟨on.1, on.2, due⟩
  next => rfl

theorem ownTimer_of_stopped {s : State} {p : Port} {d : Dir} (off : ¬ s.running p d = true) :
    ownTimer s p d = s.timer p d := if_neg fun on => off on.1

theorem State.setTimer_timer (s : State) (p : Port) (d : Dir) : s.setTimer p d (s.timer p d) = s := by
  have same : (s.port p).tmo.set d (s.tmo p d) = (s.port p).tmo := by cases d <;> rfl
  exact (congrArg (fun x => s.setPort p { s.port p with tmo := x }) same).trans (s.setPort_port p)

/-- A timer that runs has a source that strict mode would reset (43_timeout.md R147, R151). -/
theorem resyncSource_of_running {s : State} {p : Port} {d : Dir} (run : s.running p d = true) :
    ∃ r, resyncSource s p d = some r := by
  cases d with
  | rx => exact ⟨p, rfl⟩
  | tx =>
    obtain rfl | ⟨h, rfl⟩ := ext_or_hostPort p
    · obtain ⟨g, owned⟩ := Option.isSome_iff_exists.mp ((running_tx_ext s).mp run).2
      exact ⟨hostPort g, by simp [resyncSource, owned]⟩
    · exact ⟨.ext, by simp [resyncSource]⟩

/-- The source of a timer is read from the owner of the path only. -/
theorem resyncSource_congr {s u : State} (owner : u.extOwner = s.extOwner) (p : Port) (d : Dir) :
    resyncSource u p d = resyncSource s p d := by
  simp only [resyncSource, owner]

theorem passed_extOwner (s : State) (p : Port) (d : Dir) : (passed s p d).extOwner = s.extOwner := by
  unfold passed; split <;> rfl

theorem rxp_passed (s : State) (p : Port) (d : Dir) (q : Port) : (passed s p d).rxp q = s.rxp q := by
  unfold passed; split <;> simp [counted, State.rxp]

/-- An iteration that resets no parser passes. -/
theorem superviseOne_of_not_cuts {s : State} {p : Port} {d : Dir} (relaxed : ∀ r, ¬ Cuts s p d r) :
    superviseOne s p d = passed s p d := by
  obtain ⟨firing, h⟩ | ⟨run, enabled, early, h⟩ | ⟨off, h⟩ := superviseOne_cases s p d
  · obtain ⟨r, source⟩ := resyncSource_of_running firing.1
    rw [h, passed, if_pos firing, expire_eq, if_neg fun strict => relaxed r ⟨firing, strict, source⟩]
  · have quiet : ¬ Firing s p d := fun ⟨_, _, due⟩ => by omega
    rw [h, passed, if_neg quiet, ownTimer_of_not_firing quiet, if_pos ⟨run, enabled⟩]
  · have quiet : ¬ Firing s p d := fun ⟨run, enabled, _⟩ => off ⟨run, enabled⟩
    rw [h, passed, if_neg quiet, ownTimer_of_not_firing quiet, if_neg off, State.setTimer_timer]

/-- A strict expiry passes and resets the parser of its source (43_timeout.md R149, R151). -/
theorem superviseOne_of_cuts {s : State} {p r : Port} {d : Dir} (cuts : Cuts s p d r) :
    superviseOne s p d = parserReset (passed s p d) r := by
  obtain ⟨firing, strict, source⟩ := cuts
  replace source := (resyncSource_congr (s := s) (u := counted s p d) rfl p d).trans source
  have expires : superviseOne s p d = expire s p d := by
    obtain ⟨-, h⟩ | ⟨-, -, early, -⟩ | ⟨off, -⟩ := superviseOne_cases s p d
    · exact h
    · obtain ⟨-, -, due⟩ := firing
      omega
    · obtain ⟨run, enabled, -⟩ := firing
      exact absurd ⟨run, enabled⟩ off
  rw [expires, expire_eq, if_pos strict, passed, if_pos firing]
  obtain ⟨-, none⟩ | ⟨r', reset, same⟩ := resync_cases (counted s p d) p d
  · rw [none] at source; cases source
  · rw [reset, Option.some.inj (same.symm.trans source)]

/-- A strict expiry cuts one frame. -/
theorem cuts_iff_eq {s : State} {p r : Port} {d : Dir} (cuts : Cuts s p d r) (q : Port) : Cuts s p d q ↔ r = q := by
  obtain ⟨-, -, source⟩ := id cuts
  exact ⟨fun ⟨_, _, other⟩ => Option.some.inj (source.symm.trans other), fun same => same ▸ cuts⟩

theorem superviseOne_cuts_or (s : State) (p : Port) (d : Dir) :
    (∃ r, Cuts s p d r ∧ superviseOne s p d = parserReset (passed s p d) r) ∨
    ((∀ r, ¬ Cuts s p d r) ∧ superviseOne s p d = passed s p d) := by
  by_cases h : ∃ r, Cuts s p d r
  · obtain ⟨r, cuts⟩ := h
    exact .inl ⟨r, cuts, superviseOne_of_cuts cuts⟩
  · have relaxed := not_exists.mp h
    exact .inr ⟨relaxed, superviseOne_of_not_cuts relaxed⟩

/-! ## What one iteration does to each part of the state -/

theorem rxp_superviseOne_of_cuts {s : State} {p r : Port} {d : Dir} (cuts : Cuts s p d r) :
    (superviseOne s p d).rxp r = (s.rxp r).atBoundary := by
  rw [superviseOne_of_cuts cuts, rxp_parserReset, if_pos rfl, rxp_passed]

theorem rxp_superviseOne_of_not_cuts {s : State} {p q : Port} {d : Dir} (kept : ¬ Cuts s p d q) :
    (superviseOne s p d).rxp q = s.rxp q := by
  obtain ⟨r, cuts, h⟩ | ⟨-, h⟩ := superviseOne_cuts_or s p d <;> rw [h]
  · rw [rxp_parserReset, if_neg fun same : q = r => kept (same ▸ cuts), rxp_passed]
  · exact rxp_passed s p d q

/-- The path after the reset of source `r`, by who may own it (42_framer.md R132). -/
theorem released_eq_some (o : Option HostPort) (r : Port) (h : HostPort) :
    (if o ≠ none ∧ o = asHost r then none else o) = some h ↔ o = some h ∧ r ≠ hostPort h := by
  rw [ne_eq r, ← asHost_eq_some]
  split
  next taken => exact ⟨nofun, fun ⟨owned, other⟩ => absurd (taken.2.symm.trans owned) other⟩
  next kept => exact ⟨fun owned => ⟨owned, fun host => kept ⟨by simp [owned], owned.trans host.symm⟩⟩, And.left⟩

theorem superviseOne_extOwner (s : State) (p : Port) (d : Dir) (h : HostPort) :
    (superviseOne s p d).extOwner = some h ↔ s.extOwner = some h ∧ ¬ Cuts s p d (hostPort h) := by
  obtain ⟨r, cuts, reset⟩ | ⟨relaxed, pass⟩ := superviseOne_cuts_or s p d
  · rw [reset, parserReset_extOwner, passed_extOwner, cuts_iff_eq cuts, released_eq_some]
  · rw [pass, passed_extOwner]
    exact (and_iff_left (relaxed _)).symm

theorem timer_passed (s : State) (p q : Port) (d e : Dir) :
    (passed s p d).timer q e = if q = p ∧ e = d then ownTimer s p d else s.timer q e := by
  unfold passed
  split
  next firing =>
    rw [ownTimer_of_firing firing]
    exact (timer_incTimeout (s.setTimer p d 0) p q d e).trans (timer_setTimer s p q d e 0)
  next => exact timer_setTimer s p q d e _

theorem timeoutCount_setTimer (s : State) (p q : Port) (d e : Dir) (n : Nat) :
    ((s.setTimer p d n).tmo q e).timeoutCount = (s.tmo q e).timeoutCount := by
  rw [State.tmo, State.setTimer, port_setTmo_eq]
  dsimp only
  split
  next h =>
    subst h
    rw [PerDir.get_set]
    split
    next h => subst h; rfl
    next => rfl
  next => rfl

theorem timeoutCount_incTimeout (s : State) (p q : Port) (d e : Dir) :
    ((s.incTimeout p d).tmo q e).timeoutCount =
      if q = p ∧ e = d then s.inc (s.tmo q e).timeoutCount else (s.tmo q e).timeoutCount := by
  rw [State.tmo, State.incTimeout, port_setTmo_eq]
  dsimp only
  by_cases hq : q = p
  · subst hq
    rw [if_pos rfl, PerDir.get_set]
    by_cases he : e = d
    · subst he; simp
    · simp [he]
  · simp [hq]

theorem timeoutCount_passed (s : State) (p q : Port) (d e : Dir) :
    ((passed s p d).tmo q e).timeoutCount =
      if (q = p ∧ e = d) ∧ Firing s p d then s.inc (s.tmo q e).timeoutCount else (s.tmo q e).timeoutCount := by
  unfold passed
  split
  next firing =>
    have counts := timeoutCount_incTimeout (s.setTimer p d 0) p q d e
    rw [timeoutCount_setTimer] at counts
    exact counts.trans (if_congr (and_iff_left firing).symm rfl rfl)
  next quiet => exact (timeoutCount_setTimer s p q d e _).trans (if_neg fun h => quiet h.2).symm

theorem tmo_parserReset (s : State) (r q : Port) (e : Dir) :
    (parserReset s r).tmo q e = { s.tmo q e with timer := (parserReset s r).timer q e } :=
  (restarted_parserReset s r q).tmo e

/-- Only the timer's own expiry counts (43_timeout.md R148). -/
theorem timeoutCount_superviseOne (s : State) (p q : Port) (d e : Dir) :
    ((superviseOne s p d).tmo q e).timeoutCount =
      if (q = p ∧ e = d) ∧ Firing s p d then s.inc (s.tmo q e).timeoutCount else (s.tmo q e).timeoutCount := by
  rw [← timeoutCount_passed]
  obtain ⟨r, -, h⟩ | ⟨-, h⟩ := superviseOne_cuts_or s p d <;> rw [h]
  rw [tmo_parserReset]

theorem getLsbD_one_shiftLeft (n k : Nat) (small : k < 16) : ((1 <<< k : Nat) : Word16).getLsbD n = true ↔ n = k := by
  rw [BitVec.natCast_eq_ofNat, BitVec.getLsbD_ofNat, Nat.one_shiftLeft, Nat.testBit_two_pow, Bool.and_eq_true,
    decide_eq_true_eq, decide_eq_true_eq]
  omega

theorem superviseOne_getLsbD (s : State) (p : Port) (d : Dir) (n : Nat) :
    (superviseOne s p d).faultBitmap.getLsbD n = true ↔
      s.faultBitmap.getLsbD n = true ∨ (Firing s p d ∧ n = faultBit .timeoutError p) := by
  have pass : (passed s p d).faultBitmap.getLsbD n = true ↔
      s.faultBitmap.getLsbD n = true ∨ (Firing s p d ∧ n = faultBit .timeoutError p) := by
    unfold passed
    split
    next firing =>
      change (s.faultBitmap ||| (1 <<< faultBit .timeoutError p)).getLsbD n = true ↔ _
      rw [BitVec.getLsbD_or, Bool.or_eq_true, getLsbD_one_shiftLeft _ _ (faultBit_lt _ p), and_iff_right firing]
    next quiet => exact (or_iff_left fun h => quiet h.1).symm
  obtain ⟨r, -, h⟩ | ⟨-, h⟩ := superviseOne_cuts_or s p d <;> rw [h]
  · rw [parserReset_faultBitmap, pass]
  · exact pass

theorem superviseOne_faultTime (s : State) (p : Port) (d : Dir) :
    (superviseOne s p d).faultTime = if Firing s p d then s.now else s.faultTime := by
  have pass : (passed s p d).faultTime = if Firing s p d then s.now else s.faultTime := by
    unfold passed; split <;> rfl
  obtain ⟨r, -, h⟩ | ⟨-, h⟩ := superviseOne_cuts_or s p d <;> rw [h]
  · rw [parserReset_faultTime, pass]
  · exact pass

/-- A timer that does not run does not advance (43_timeout.md R147). -/
theorem timer_superviseOne_le {s : State} {q : Port} {e : Dir} (off : ¬ s.running q e = true) (p : Port) (d : Dir) :
    (superviseOne s p d).timer q e ≤ s.timer q e := by
  have pass : (passed s p d).timer q e = s.timer q e := by
    rw [timer_passed]
    split
    next h => obtain ⟨rfl, rfl⟩ := h; exact ownTimer_of_stopped off
    next => rfl
  obtain ⟨r, -, h⟩ | ⟨-, h⟩ := superviseOne_cuts_or s p d <;> rw [h]
  · exact (timer_parserReset_le _ r q e).trans_eq pass
  · exact pass.le

/-- A strict expiry leaves its own timer and the RX timer of its source at 0, in any state. -/
theorem timer_superviseOne_of_cuts {s : State} {p r : Port} {d : Dir} (cuts : Cuts s p d r) :
    (superviseOne s p d).timer p d = 0 ∧ (superviseOne s p d).timer r .rx = 0 := by
  rw [superviseOne_of_cuts cuts]
  refine ⟨Nat.le_zero.mp ((timer_parserReset_le _ r p d).trans_eq ?_), ?_⟩
  · rw [timer_passed, if_pos ⟨rfl, rfl⟩, ownTimer_of_firing cuts.1]
  · rw [timer_rx_parserReset, if_pos rfl]

/-! ## A parser reset under the framing invariant -/

theorem framed_passed {s : State} (h : Framed s) (p : Port) (d : Dir) : Framed (passed s p d) := by
  unfold passed
  split
  next => exact framed_counted h p d
  next quiet =>
    rw [ownTimer_of_not_firing quiet]
    split
    next on => exact framed_advance h on.1 (Nat.lt_of_not_le fun due => quiet ⟨on.1, on.2, due⟩)
    next => rw [State.setTimer_timer]; exact h

/-- The reset of source `r` stops the timers of its frame and no other (42_framer.md R132, 43_timeout.md R147). -/
theorem timer_parserReset_of_framed {s : State} (framed : Framed s) (r q : Port) (e : Dir) :
    (parserReset s r).timer q e = if resyncSource s q e = some r then 0 else s.timer q e := by
  cases e with
  | rx => simp [timer_rx_parserReset, resyncSource]
  | tx =>
    rw [timer_tx_parserReset]
    obtain rfl | ⟨h, rfl⟩ := ext_or_hostPort q
    · have away : ¬ (r = .ext ∧ Delivering (s.rxp .ext) ∧ (s.rxp .ext).dest = .ext) := fun ⟨_, del, self⟩ =>
        ((framed.parser .ext).dest (by obtain h | h := del <;> simp [h])).mp self rfl
      have owns : (s.extOwner ≠ none ∧ s.extOwner = asHost r) ↔ resyncSource s .ext .tx = some r := by
        cases owner : s.extOwner with
        | none => simp [resyncSource, owner]
        | some g => simp [resyncSource, owner, eq_comm (a := some g), asHost_eq_some, eq_comm (a := r)]
      simp only [away, or_false, owns, true_and]
    · have stopped : s.running (hostPort h) .tx = false → s.timer (hostPort h) .tx = 0 :=
        (framed.timer (hostPort h) .tx).1
      have watched : resyncSource s (hostPort h) .tx = some r ↔ r = .ext := by
        simp [resyncSource, eq_comm (a := r)]
      simp only [hostPort_ne_ext, false_and, false_or, watched]
      by_cases ext : r = .ext
      · simp only [ext, true_and, if_true, ite_eq_left_iff]
        refine fun other => stopped ?_
        rw [← Bool.not_eq_true, running_tx_host]
        exact fun ⟨_, del⟩ => other del
      · simp [ext]

/-- Under the framing invariant a strict expiry stops the timers of the frame it cuts. -/
theorem timer_superviseOne_of_source {s : State} {p q r : Port} {d e : Dir} (framed : Framed s) (cuts : Cuts s p d r)
    (source : resyncSource s q e = some r) : (superviseOne s p d).timer q e = 0 := by
  rw [superviseOne_of_cuts cuts, timer_parserReset_of_framed (framed_passed framed p d),
    resyncSource_congr (passed_extOwner s p d), if_pos source]

/-- An iteration that does not cut the frame of timer (q, e) advances it if it is its own, and else leaves it. -/
theorem timer_superviseOne_of_not_source {s : State} {p q : Port} {d e : Dir}
    (framed : ∀ r, Cuts s p d r → Framed s) (intact : ∀ r, Cuts s p d r → resyncSource s q e ≠ some r) :
    (superviseOne s p d).timer q e = if q = p ∧ e = d then ownTimer s p d else s.timer q e := by
  obtain ⟨r, cuts, h⟩ | ⟨-, h⟩ := superviseOne_cuts_or s p d <;> rw [h, ← timer_passed]
  rw [timer_parserReset_of_framed (framed_passed (framed r cuts) p d), resyncSource_congr (passed_extOwner s p d),
    if_neg (intact r cuts)]

end Sys2Proof.Machine
end

section
/-!
SUPPORT. The supervisor in its order (43_timeout.md R148): the state after the timers at the places from `m` to below
`n`, in terms of what is due when the tick begins, one iteration at a time.
-/

namespace Sys2Proof.Machine

/-! ## The supervisor up to a place in its order -/

/-- A timer at a place from `m` to below `n` is due and strict and its frame comes from `r` (43_timeout.md R148, R149,
R151). -/
def CutIn (s : State) (m n : Nat) (r : Port) : Prop :=
  ∃ q e, m ≤ timerPlace q e ∧ timerPlace q e < n ∧ Cuts s q e r

/-- The frame that the timer (p, d) watches is not cut from a place from `m` to below `n`. -/
def Intact (s : State) (m n : Nat) (p : Port) (d : Dir) : Prop := ∀ r, resyncSource s p d = some r → ¬ CutIn s m n r

/-- The timer (p, d), at a place from `m` to below `n`, is due, and its frame is not cut from `m` on before its turn. -/
def Expired (s : State) (m n : Nat) (p : Port) (d : Dir) : Prop :=
  m ≤ timerPlace p d ∧ timerPlace p d < n ∧ Firing s p d ∧ Intact s m (timerPlace p d) p d

/-- `u` is `s` after the iterations of the timers at the places from `m` to below `n` (43_timeout.md R148). -/
structure Supervised (s : State) (m n : Nat) (u : State) : Prop where
  ticked : PortsTicked s u
  bypassMode : u.bypassMode = s.bypassMode
  framed : Framed s → Framed u
  cut : ∀ r, CutIn s m n r → u.rxp r = (s.rxp r).atBoundary
  kept : ∀ r, ¬ CutIn s m n r → u.rxp r = s.rxp r
  owner : ∀ h, u.extOwner = some h ↔ s.extOwner = some h ∧ ¬ CutIn s m n (hostPort h)
  stopped : ∀ p d, ¬ Intact s m n p d → u.timer p d = 0
  timer : ∀ p d, Intact s m n p d →
    u.timer p d = if m ≤ timerPlace p d ∧ timerPlace p d < n then ownTimer s p d else s.timer p d
  count : ∀ p d, Expired s m n p d → (u.tmo p d).timeoutCount = s.inc (s.tmo p d).timeoutCount
  no_count : ∀ p d, ¬ Expired s m n p d → (u.tmo p d).timeoutCount = (s.tmo p d).timeoutCount
  bits : ∀ k, u.faultBitmap.getLsbD k = true ↔
    s.faultBitmap.getLsbD k = true ∨ ∃ p d, Expired s m n p d ∧ k = faultBit .timeoutError p
  time : (∃ p d, Expired s m n p d) → u.faultTime = u.now
  no_time : (∀ p d, ¬ Expired s m n p d) → u.faultTime = s.faultTime

theorem timerPlace_inj {p q : Port} {d e : Dir} : timerPlace q e = timerPlace p d ↔ q = p ∧ e = d := by
  rw [← portNum_inj]
  cases d <;> cases e <;> simp [timerPlace] <;> omega

theorem timerPlace_lt (p : Port) (d : Dir) : timerPlace p d < 8 := by
  have := portNum_lt p
  cases d <;> simp only [timerPlace] <;> omega

theorem not_cutIn_self (s : State) (m : Nat) (r : Port) : ¬ CutIn s m m r := fun ⟨_, _, from_m, below, _⟩ => by omega

theorem intact_self (s : State) (m : Nat) (p : Port) (d : Dir) : Intact s m m p d := fun r _ => not_cutIn_self s m r

theorem not_expired_self (s : State) (m : Nat) (p : Port) (d : Dir) : ¬ Expired s m m p d :=
  fun ⟨from_m, below, _⟩ => by omega

section
variable {s : State} {m n : Nat} {p : Port} {d : Dir}

theorem cutIn_succ (place : timerPlace p d = n) (start : m ≤ n) (r : Port) :
    CutIn s m (n + 1) r ↔ CutIn s m n r ∨ Cuts s p d r := by
  constructor
  · rintro ⟨q, e, from_m, below, cuts⟩
    by_cases last : timerPlace q e = timerPlace p d
    · obtain ⟨rfl, rfl⟩ := timerPlace_inj.mp last
      exact .inr cuts
    · exact .inl ⟨q, e, from_m, by omega, cuts⟩
  · rintro (⟨q, e, from_m, below, cuts⟩ | cuts)
    · exact ⟨q, e, from_m, by omega, cuts⟩
    · exact ⟨p, d, by omega, by omega, cuts⟩

theorem intact_succ (place : timerPlace p d = n) (start : m ≤ n) (q : Port) (e : Dir) :
    Intact s m (n + 1) q e ↔ Intact s m n q e ∧ ∀ r, Cuts s p d r → resyncSource s q e ≠ some r := by
  simp only [Intact, cutIn_succ place start, not_or]
  exact ⟨fun h => ⟨fun r source => (h r source).1, fun r cuts source => (h r source).2 cuts⟩,
    fun ⟨before, now⟩ r source => ⟨before r source, fun cuts => now r cuts source⟩⟩

theorem expired_succ (place : timerPlace p d = n) (start : m ≤ n) (q : Port) (e : Dir) :
    Expired s m (n + 1) q e ↔
      Expired s m n q e ∨ ((q = p ∧ e = d) ∧ Firing s p d ∧ Intact s m n p d) := by
  constructor
  · rintro ⟨from_m, below, expires⟩
    by_cases last : timerPlace q e = timerPlace p d
    · obtain ⟨rfl, rfl⟩ := timerPlace_inj.mp last
      exact .inr ⟨⟨rfl, rfl⟩, place ▸ expires⟩
    · exact .inl ⟨from_m, by omega, expires⟩
  · rintro (⟨from_m, below, expires⟩ | ⟨⟨rfl, rfl⟩, expires⟩)
    · exact ⟨from_m, by omega, expires⟩
    · exact ⟨by omega, by omega, by rwa [place]⟩

/-- Before its turn a timer has not expired. -/
theorem not_expired_of_place {q : Port} {e : Dir} (place : timerPlace p d = n) (own : q = p ∧ e = d) :
    ¬ Expired s m n q e := by
  obtain ⟨rfl, rfl⟩ := own
  exact fun ⟨_, below, _⟩ => by omega

end

theorem timeoutEnable_of_portsTicked {s t : State} (h : PortsTicked s t) (p : Port) (d : Dir) :
    (t.tmo p d).timeoutEnable = (s.tmo p d).timeoutEnable := by
  rw [State.tmo, (h.2 p).tmo d]

theorem resyncEnabled_of_portsTicked {s t : State} (h : PortsTicked s t) (p : Port) (d : Dir) :
    (t.tmo p d).resyncEnabled = (s.tmo p d).resyncEnabled := by
  rw [State.tmo, (h.2 p).tmo d]

section
variable {s u : State} {m n : Nat} (h : Supervised s m n u)
include h

theorem Supervised.not_delivering (cut : CutIn s m n .ext) : ¬ Delivering (u.rxp .ext) := by
  rw [h.cut .ext cut]
  simp [Delivering, Parser.atBoundary]

/-- What still runs is what ran and whose frame is not cut (43_timeout.md R147). -/
theorem Supervised.running_iff (q : Port) (e : Dir) :
    u.running q e = true ↔ s.running q e = true ∧ Intact s m n q e := by
  cases e with
  | rx =>
    have intact : Intact s m n q .rx ↔ ¬ CutIn s m n q :=
      ⟨fun whole => whole q rfl, fun whole r source => Option.some.inj source ▸ whole⟩
    rw [running_rx, running_rx, h.bypassMode, intact, and_assoc]
    by_cases cut : CutIn s m n q
    · simp [h.cut q cut, Parser.atBoundary, cut]
    · simp [h.kept q cut, cut]
  | tx =>
    obtain rfl | ⟨g, rfl⟩ := ext_or_hostPort q
    · rw [running_tx_ext, running_tx_ext, h.bypassMode, and_assoc]
      refine and_congr_right fun _ => ?_
      simp only [Option.isSome_iff_exists, h.owner]
      constructor
      · rintro ⟨g, owned, whole⟩
        refine ⟨⟨g, owned⟩, fun r source => ?_⟩
        have host : hostPort g = r := by simpa [resyncSource, owned] using source
        exact host ▸ whole
      · rintro ⟨⟨g, owned⟩, whole⟩
        exact ⟨g, owned, whole _ (by simp [resyncSource, owned])⟩
    · have intact : Intact s m n (hostPort g) .tx ↔ ¬ CutIn s m n .ext := by simp [Intact, resyncSource]
      rw [running_tx_host, running_tx_host, h.bypassMode, intact, and_assoc]
      by_cases cut : CutIn s m n .ext
      · simp only [h.not_delivering cut, cut, false_and, and_false, not_true]
      · rw [h.kept .ext cut, and_iff_left cut]

theorem Supervised.resyncSource_before {q r : Port} {e : Dir} (source : resyncSource u q e = some r) :
    resyncSource s q e = some r := by
  cases e with
  | rx => exact source
  | tx =>
    obtain rfl | ⟨g, rfl⟩ := ext_or_hostPort q
    · obtain ⟨g, owned, rfl⟩ := Option.map_eq_some_iff.mp (by simpa [resyncSource] using source)
      simp [resyncSource, ((h.owner g).mp owned).1]
    · simpa [resyncSource] using source

theorem Supervised.resyncSource_of_intact {q r : Port} {e : Dir} (intact : Intact s m n q e)
    (source : resyncSource s q e = some r) : resyncSource u q e = some r := by
  cases e with
  | rx => exact source
  | tx =>
    obtain rfl | ⟨g, rfl⟩ := ext_or_hostPort q
    · have whole := intact r source
      obtain ⟨g, owned, rfl⟩ := Option.map_eq_some_iff.mp (by simpa [resyncSource] using source)
      simp [resyncSource, (h.owner g).mpr ⟨owned, whole⟩]
    · simpa [resyncSource] using source

variable {p : Port} {d : Dir} (turn : n ≤ timerPlace p d)
include turn

theorem Supervised.own_timer (intact : Intact s m n p d) : u.timer p d = s.timer p d := by
  rw [h.timer p d intact, if_neg fun range => by omega]

/-- A timer is due before its turn if it was due and its frame is not cut by then (43_timeout.md R148). -/
theorem Supervised.firing_iff : Firing u p d ↔ Firing s p d ∧ Intact s m n p d := by
  have period := period_of_portsTicked h.ticked p d
  rw [Firing, Firing, h.running_iff, timeoutEnable_of_portsTicked h.ticked, period]
  constructor
  · rintro ⟨⟨run, intact⟩, enabled, due⟩
    exact ⟨⟨run, enabled, h.own_timer turn intact ▸ due⟩, intact⟩
  · rintro ⟨⟨run, enabled, due⟩, intact⟩
    exact ⟨⟨run, intact⟩, enabled, (h.own_timer turn intact).symm ▸ due⟩

theorem Supervised.cuts_iff (r : Port) : Cuts u p d r ↔ Cuts s p d r ∧ ¬ CutIn s m n r := by
  rw [Cuts, Cuts, h.firing_iff turn, resyncEnabled_of_portsTicked h.ticked]
  constructor
  · rintro ⟨⟨firing, intact⟩, strict, source⟩
    have source := h.resyncSource_before source
    exact ⟨⟨firing, strict, source⟩, intact r source⟩
  · rintro ⟨⟨firing, strict, source⟩, whole⟩
    have intact : Intact s m n p d := fun r' same => Option.some.inj (source.symm.trans same) ▸ whole
    exact ⟨⟨firing, intact⟩, strict, h.resyncSource_of_intact intact source⟩

theorem Supervised.ownTimer_eq (intact : Intact s m n p d) : ownTimer u p d = ownTimer s p d := by
  have run : u.running p d = true ↔ s.running p d = true := by
    rw [h.running_iff]; exact and_iff_left intact
  rw [ownTimer, ownTimer, h.own_timer turn intact, timeoutEnable_of_portsTicked h.ticked,
    period_of_portsTicked h.ticked]
  simp only [run]

end

section
variable {s u : State} {m n : Nat} {p : Port} {d : Dir} (h : Supervised s m n u) (place : timerPlace p d = n)
  (start : m ≤ n)
include h place start

theorem Supervised.cutIn_succ_iff (r : Port) : CutIn s m (n + 1) r ↔ CutIn s m n r ∨ Cuts u p d r := by
  rw [cutIn_succ place start, h.cuts_iff place.ge]
  tauto

theorem Supervised.expired_succ_iff (q : Port) (e : Dir) :
    Expired s m (n + 1) q e ↔ Expired s m n q e ∨ ((q = p ∧ e = d) ∧ Firing u p d) := by
  rw [expired_succ place start, h.firing_iff place.ge]

variable (framed : ∀ r, Cuts s p d r → Framed s)
include framed

theorem Supervised.timer_step (q : Port) (e : Dir) (intact : Intact s m (n + 1) q e) :
    (superviseOne u p d).timer q e =
      if m ≤ timerPlace q e ∧ timerPlace q e < n + 1 then ownTimer s q e else s.timer q e := by
  obtain ⟨before, now⟩ := (intact_succ place start q e).mp intact
  have not_cut : ∀ r, Cuts u p d r → resyncSource u q e ≠ some r := fun r cuts source =>
    now r ((h.cuts_iff place.ge r).mp cuts).1 (h.resyncSource_before source)
  rw [timer_superviseOne_of_not_source (fun r cuts => h.framed (framed r ((h.cuts_iff place.ge r).mp cuts).1)) not_cut]
  split
  next own =>
    obtain ⟨rfl, rfl⟩ := own
    rw [if_pos (by omega), h.ownTimer_eq place.ge before]
  next other =>
    have elsewhere : timerPlace q e ≠ timerPlace p d := fun same => other (timerPlace_inj.mp same)
    rw [h.timer q e before]
    exact if_congr (by omega) rfl rfl

theorem Supervised.stopped_step (q : Port) (e : Dir) (cut : ¬ Intact s m (n + 1) q e) :
    (superviseOne u p d).timer q e = 0 := by
  by_cases before : Intact s m n q e
  · obtain ⟨r, whole⟩ := not_forall.mp fun now => cut ((intact_succ place start q e).mpr ⟨before, now⟩)
    obtain ⟨cuts, same⟩ := Classical.not_imp.mp whole
    have source : resyncSource s q e = some r := not_not.mp same
    exact timer_superviseOne_of_source (h.framed (framed r cuts))
      ((h.cuts_iff place.ge r).mpr ⟨cuts, before r source⟩) (h.resyncSource_of_intact before source)
  · have off : ¬ u.running q e = true := fun run => before ((h.running_iff q e).mp run).2
    exact Nat.le_zero.mp ((timer_superviseOne_le off p d).trans_eq (h.stopped q e before))

/-- One more iteration of the supervisor. -/
theorem Supervised.step : Supervised s m (n + 1) (superviseOne u p d) where
  ticked := h.ticked.trans (portsTicked_superviseOne u p d)
  bypassMode := (superviseOne_bypassMode u p d).trans h.bypassMode
  framed hs := framed_superviseOne (h.framed hs) p d
  cut r cut := by
    obtain before | cuts := (h.cutIn_succ_iff place start r).mp cut
    · rw [rxp_superviseOne_of_not_cuts fun cuts => ((h.cuts_iff place.ge r).mp cuts).2 before, h.cut r before]
    · rw [rxp_superviseOne_of_cuts cuts, h.kept r ((h.cuts_iff place.ge r).mp cuts).2]
  kept r whole := by
    rw [h.cutIn_succ_iff place start, not_or] at whole
    rw [rxp_superviseOne_of_not_cuts whole.2, h.kept r whole.1]
  owner g := by rw [superviseOne_extOwner, h.owner, h.cutIn_succ_iff place start, not_or, and_assoc]
  stopped := h.stopped_step place start framed
  timer := h.timer_step place start framed
  count q e expired := by
    rw [timeoutCount_superviseOne]
    obtain before | now := (h.expired_succ_iff place start q e).mp expired
    · rw [if_neg fun now => not_expired_of_place place now.1 before, h.count q e before]
    · rw [if_pos now, h.no_count q e (not_expired_of_place place now.1), State.inc, State.inc, h.ticked.1]
  no_count q e alive := by
    rw [h.expired_succ_iff place start, not_or] at alive
    rw [timeoutCount_superviseOne, if_neg alive.2, h.no_count q e alive.1]
  bits k := by
    rw [superviseOne_getLsbD, h.bits, or_assoc]
    refine or_congr_right ?_
    simp only [h.expired_succ_iff place start]
    constructor
    · rintro (⟨q, e, before, bit⟩ | ⟨now, bit⟩)
      · exact ⟨q, e, .inl before, bit⟩
      · exact ⟨p, d, .inr ⟨⟨rfl, rfl⟩, now⟩, bit⟩
    · rintro ⟨q, e, before | ⟨⟨rfl, rfl⟩, now⟩, bit⟩
      · exact .inl ⟨q, e, before, bit⟩
      · exact .inr ⟨now, bit⟩
  time := by
    rintro ⟨q, e, expired⟩
    rw [superviseOne_faultTime, superviseOne_now]
    obtain before | ⟨-, now⟩ := (h.expired_succ_iff place start q e).mp expired
    · rw [h.time ⟨q, e, before⟩, ite_self]
    · rw [if_pos now]
  no_time alive := by
    simp only [h.expired_succ_iff place start, not_or] at alive
    rw [superviseOne_faultTime, if_neg fun now => (alive p d).2 ⟨⟨rfl, rfl⟩, now⟩, h.no_time fun q e => (alive q e).1]

end

/-! ## The supervisor as a run over the eight timers -/

/-- The timers in the supervisor's order (43_timeout.md R148). -/
def timersInOrder : List (Port × Dir) := allPorts.flatMap fun p => [(p, .rx), (p, .tx)]

/-- The iterations of the timers `l`, in turn. -/
def superviseAll (l : List (Port × Dir)) (s : State) : State := l.foldl (fun s x => superviseOne s x.1 x.2) s

theorem supervise_eq (s : State) : supervise s = superviseAll timersInOrder s := rfl

theorem superviseAll_rel {R : State → State → Prop} (refl : ∀ s, R s s) (trans : ∀ {s t u}, R s t → R t u → R s u)
    (step : ∀ s p d, R s (superviseOne s p d)) (l : List (Port × Dir)) (s : State) : R s (superviseAll l s) :=
  foldl_rel refl trans (fun s (x : Port × Dir) => step s x.1 x.2) l s

/-- The iterations of timers at `k` consecutive places. -/
theorem Supervised.run {s : State} {m : Nat} {l : List (Port × Dir)} {n k : Nat} {u : State} (h : Supervised s m n u)
    (places : l.map (fun x => timerPlace x.1 x.2) = List.range' n k) (start : m ≤ n)
    (framed : ∀ p d, n ≤ timerPlace p d → timerPlace p d < n + k → ∀ r, Cuts s p d r → Framed s) :
    Supervised s m (n + k) (superviseAll l u) := by
  induction l generalizing n k u with
  | nil =>
    obtain rfl : k = 0 := by simpa using places.symm
    exact h
  | cons x l ih =>
    cases k with
    | zero => cases places
    | succ k =>
      obtain ⟨head, rest⟩ := List.cons.inj places
      have place : timerPlace x.1 x.2 = n := head
      have next := h.step place start (framed x.1 x.2 (by omega) (by omega))
      have all := ih next rest (by omega) fun p d from_n below => framed p d (by omega) (by omega)
      rwa [Nat.add_right_comm] at all

/-- Before any iteration, with nothing but the time and the power gate moved (60_exceptions.md R230). -/
theorem supervised_start {s u : State} (same : u = { s with now := u.now, pg := u.pg }) (m : Nat) :
    Supervised s m m u := by
  rw [same]
  exact {
    ticked := ⟨rfl, fun _ => .refl _ _⟩
    bypassMode := rfl
    framed := SameFraming.framed (s := s) ⟨rfl, rfl, rfl, fun _ => rfl, fun _ _ => rfl, fun _ _ => rfl⟩
    cut := fun r cut => absurd cut (not_cutIn_self s m r)
    kept := fun _ _ => rfl
    owner := fun g => (and_iff_left (not_cutIn_self s m _)).symm
    stopped := fun p d cut => absurd (intact_self s m p d) cut
    timer := fun p d _ => by rw [if_neg fun range => by omega]; rfl
    count := fun p d expired => absurd expired (not_expired_self s m p d)
    no_count := fun _ _ _ => rfl
    bits := fun k => (or_iff_left fun ⟨p, d, expired, _⟩ => not_expired_self s m p d expired).symm
    time := fun ⟨p, d, expired⟩ => absurd expired (not_expired_self s m p d)
    no_time := fun _ => rfl }

end Sys2Proof.Machine
end

section
/-!
SUPPORT. A tick in which no recovery is due (60_exceptions.md R230): it is the supervisor's part and the count of the
poll, and the supervisor's part is `Supervised` over its whole order.
-/

namespace Sys2Proof.Machine

/-! ## A tick without the recovery -/

/-- `t` has every port of `s` but for the parsers and the timeout records. -/
def KeepsPorts (s t : State) : Prop := ∀ q, t.port q = { s.port q with rxp := t.rxp q, tmo := (t.port q).tmo }

theorem KeepsPorts.refl (s : State) : KeepsPorts s s := fun _ => rfl

theorem KeepsPorts.trans {s t u : State} (h : KeepsPorts s t) (h' : KeepsPorts t u) : KeepsPorts s u := fun q => by
  rw [State.rxp, h' q, h q]

theorem keepsPorts_setTmo (s : State) (p : Port) (d : Dir) (x : TimeoutRec) : KeepsPorts s (s.setTmo p d x) :=
  fun q => by rw [State.rxp, port_setTmo_eq]

theorem keepsPorts_passed (s : State) (p : Port) (d : Dir) : KeepsPorts s (passed s p d) := by
  unfold passed
  split
  · exact (keepsPorts_setTmo s p d _).trans (keepsPorts_setTmo (s.setTimer p d 0) p d _)
  · exact keepsPorts_setTmo s p d _

theorem keepsPorts_superviseOne (s : State) (p : Port) (d : Dir) : KeepsPorts s (superviseOne s p d) := by
  obtain ⟨r, -, h⟩ | ⟨-, h⟩ := superviseOne_cuts_or s p d <;> rw [h]
  · exact (keepsPorts_passed s p d).trans fun q => (restarted_parserReset _ r q).rest
  · exact keepsPorts_passed s p d

theorem keepsPorts_supervise (s : State) : KeepsPorts s (supervise s) :=
  superviseAll_rel KeepsPorts.refl KeepsPorts.trans keepsPorts_superviseOne timersInOrder s

theorem supervise_rest (s : State) :
    supervise s = { s with
      ports := (supervise s).ports, extOwner := (supervise s).extOwner
      faultBitmap := (supervise s).faultBitmap, faultTime := (supervise s).faultTime } := by
  have prm := supervise_prm s
  have schedule := supervise_schedule s
  have result := supervise_result s
  have bypassMode := supervise_bypassMode s
  have pg := supervise_pg s
  have poll := supervise_xoffPollCount s
  have now := supervise_now s
  have irqMasked := supervise_irqMasked s
  have mon := supervise_mon s
  cases h : supervise s
  simp only [h] at *
  subst prm schedule result bypassMode pg poll now irqMasked mon
  rfl

theorem wsendXoff_of_keepsPorts {s t : State} (h : KeepsPorts s t) (p : Port) : t.wsendXoff p = s.wsendXoff p := by
  rw [State.wsendXoff, State.txFifo, h p]; rfl

theorem allBlocked_iff (s : State) : s.allBlocked = true ↔ ∀ p ∈ allPorts, s.wsendXoff p = true := by
  simp [State.allBlocked, allPorts, and_assoc]

/-- The stuck-XOFF poll where no recovery is due (45_flowcontrol.md R190). -/
theorem xoffPoll_of_not_due {s : State} (calm : ¬ RecoveryDue s) :
    xoffPoll s = s.setPoll (if ∀ p ∈ allPorts, s.wsendXoff p = true then s.xoffPollCount + 1 else 0) := by
  have every : (∀ p ∈ allPorts, s.wsendXoff p = true) → ∀ p, s.wsendXoff p = true := fun h p =>
    h p (by cases p <;> decide)
  simp only [xoffPoll, allBlocked_iff]
  split
  next blocked => rw [if_neg fun limit => calm ⟨every blocked, limit⟩]
  next => rfl

/-- The state after the supervisor's part of `TICK a` (43_timeout.md R148). -/
abbrev afterSupervisor (s : State) (a : Ack) : State := supervise (tickGate s a)

theorem keepsPorts_afterSupervisor (s : State) (a : Ack) : KeepsPorts s (afterSupervisor s a) :=
  keepsPorts_supervise (tickGate s a)

/-- A tick that neither ends in IDLE nor recovers is the supervisor's part and the count of the poll (60_exceptions.md
R230). -/
theorem exec_tick_of_calm {s : State} {a : Ack} (awake : (s.pg.tick s.prm a).pgState ≠ .idle) (calm : ¬ RecoveryDue s) :
    exec (.tick a) s = .next { s with
      now := s.inc s.now, pg := s.pg.tick s.prm a
      ports := (afterSupervisor s a).ports, extOwner := (afterSupervisor s a).extOwner
      xoffPollCount := if ∀ p ∈ allPorts, s.wsendXoff p = true then s.xoffPollCount + 1 else 0
      faultBitmap := (afterSupervisor s a).faultBitmap, faultTime := (afterSupervisor s a).faultTime
      result := .none } := by
  have same : ∀ p, (afterSupervisor s a).wsendXoff p = s.wsendXoff p :=
    wsendXoff_of_keepsPorts (keepsPorts_afterSupervisor s a)
  have calm' : ¬ RecoveryDue (afterSupervisor s a) := by
    simp only [RecoveryDue, same, supervise_prm, supervise_xoffPollCount]
    exact calm
  have tick : exec (.tick a) s = .next ((tickState s a).withResult .none) := rfl
  have polled : tickState s a = xoffPoll (afterSupervisor s a) := if_neg awake
  rw [tick, polled, xoffPoll_of_not_due calm']
  simp only [same, supervise_xoffPollCount]
  exact congrArg (fun u => Host.Outcome.next ((State.setPoll u _).withResult .none)) (supervise_rest (tickGate s a))

theorem supervised_afterSupervisor {s : State} (a : Ack) (framed : ∀ p d r, Cuts s p d r → Framed s) :
    Supervised s 0 8 (afterSupervisor s a) :=
  (supervised_start (u := tickGate s a) rfl 0).run (l := timersInOrder) (k := 8) rfl (Nat.le_refl 0) fun p d _ _ =>
    framed p d

theorem Supervised.tmo {s u : State} {m n : Nat} (h : Supervised s m n u) (p : Port) (d : Dir) :
    u.tmo p d = { s.tmo p d with timer := u.timer p d, timeoutCount := (u.tmo p d).timeoutCount } :=
  (h.ticked.2 p).tmo d

theorem cut_iff (s : State) (r : Port) : Cut s r ↔ CutIn s 0 8 r :=
  ⟨fun ⟨q, e, cuts⟩ => ⟨q, e, Nat.zero_le _, timerPlace_lt q e, cuts⟩, fun ⟨q, e, _, _, cuts⟩ => ⟨q, e, cuts⟩⟩

theorem expires_iff (s : State) (p : Port) (d : Dir) : Expires s p d ↔ Expired s 0 8 p d := by
  constructor
  · rintro ⟨firing, first⟩
    exact ⟨Nat.zero_le _, timerPlace_lt p d, firing, fun r source ⟨q, e, _, before, firing', strict, source'⟩ =>
      first q e before firing' strict (source'.trans source.symm)⟩
  · rintro ⟨-, -, firing, intact⟩
    obtain ⟨r, source⟩ := resyncSource_of_running firing.1
    exact ⟨firing, fun q e before firing' strict same =>
      intact r source ⟨q, e, Nat.zero_le _, before, firing', strict, same.trans source⟩⟩

/-- With no strict expiry every due timer expires. -/
theorem expired_iff_of_relaxed {s : State} (relaxed : ∀ p d, Firing s p d → (s.tmo p d).resyncEnabled = false)
    (p : Port) (d : Dir) : Expired s 0 8 p d ↔ Firing s p d := by
  rw [← expires_iff]
  refine and_iff_left fun q e _ firing strict => ?_
  rw [relaxed q e firing] at strict
  cases strict

end Sys2Proof.Machine
end

section
/-!
PROOF. The statements of the timeout family (43_timeout.md R145 to R152): CONFIG_TIMEOUT, a tick in IDLE, and a tick
with relaxed and with strict expiries.
-/

namespace Sys2Proof.Machine

/-! ## CONFIG_TIMEOUT and the tick in IDLE -/

/-- The records after CONFIG_TIMEOUT, as the rule writes them (43_timeout.md R145). -/
theorem configuredTmo_get (old : PerDir TimeoutRec) (f : DirField) (en rs : Bool) (per : Nat) (e : Dir) :
    (configuredTmo old f en rs per).get e =
      if Names f e then (old.get e).configure en rs per else old.get e := by
  cases f <;> cases e <;> simp [configuredTmo, covers]

/-- Settles O24: the errors in the order of the checks, then the record of each direction by `configuredTmo_get`. -/
theorem configTimeoutSetsTheRecords : Obligations.ConfigTimeoutSetsTheRecords := by
  intro s p d en rs per
  have config : exec (.configTimeout p d en rs per) s = execConfigTimeout p d en rs per s := rfl
  refine ⟨fun none => ?_, fun named zero => ?_, fun named long => ?_⟩
  · rw [config, execConfigTimeout, if_pos none]
    rfl
  · rw [config, execConfigTimeout, if_neg named, if_pos zero]
    rfl
  · have next := config
    rw [execConfigTimeout, if_neg named, if_neg (by omega), configDir_eq, reply_eq] at next
    refine ⟨_, next, ?_, fun e => ?_⟩
    · simp only [State.withResult_port, State.port_setPort_self]
      rfl
    · rw [State.tmo, State.withResult_port, State.port_setPort_self]
      exact configuredTmo_get _ d en rs per.toNat e

/-- Settles O33: the tick ends with the power FSM's part. -/
theorem tickInIdleMovesTimeOnly : Obligations.TickInIdleMovesTimeOnly := by
  intro s a idle
  have tick : exec (.tick a) s = .next ((tickState s a).withResult .none) := rfl
  have gate_only : tickState s a = tickGate s a := if_pos idle
  rw [tick, gate_only]
  rfl

/-! ## A tick with relaxed expiries only -/

/-- Which timers run, with the conditions as the rule writes them (43_timeout.md R147). -/
theorem running_rules (s : State) :
    (∀ p, s.running p .rx = true ↔ s.bypassMode = false ∧ (s.rxp p).phase ≠ .boundary) ∧
    (s.running .ext .tx = true ↔ s.bypassMode = false ∧ s.extOwner ≠ none) ∧
    ∀ h, s.running (hostPort h) .tx = true ↔
      s.bypassMode = false ∧ ((s.rxp .ext).phase = .payload ∨ (s.rxp .ext).phase = .crc) ∧
        (s.rxp .ext).dest = hostPort h :=
  ⟨running_rx s, by rw [running_tx_ext, Option.isSome_iff_ne_none], running_tx_host s⟩

/-- Settles O34: with no strict expiry the supervisor cuts no frame, so each timer takes its own iteration alone
(`Supervised`). -/
theorem relaxedTimeoutsKeepTheFrame : Obligations.RelaxedTimeoutsKeepTheFrame := by
  refine ⟨running_rules, fun s a awake relaxed calm => ?_⟩
  have no_cuts : ∀ p d r, ¬ Cuts s p d r := fun p d r ⟨firing, strict, _⟩ => by
    rw [relaxed p d firing] at strict
    cases strict
  have whole : ∀ r, ¬ CutIn s 0 8 r := fun r ⟨q, e, _, _, cuts⟩ => no_cuts q e r cuts
  have h := supervised_afterSupervisor a fun p d r cuts => absurd cuts (no_cuts p d r)
  have ports := keepsPorts_afterSupervisor s a
  have expired := expired_iff_of_relaxed relaxed
  have time : (afterSupervisor s a).now = s.inc s.now := by simp
  have owner : (afterSupervisor s a).extOwner = s.extOwner :=
    Option.ext fun g => (h.owner g).trans (and_iff_left (whole _))
  refine ⟨_, exec_tick_of_calm awake calm, by rw [owner], fun p => ?_, fun p d => ?_, fun n => ?_, fun due => ?_,
    fun none => ?_⟩
  · have port := ports p
    rw [h.kept p (whole p)] at port
    exact port
  · have timer : (afterSupervisor s a).timer p d = ownTimer s p d :=
      (h.timer p d fun r _ => whole r).trans (if_pos ⟨Nat.zero_le _, timerPlace_lt p d⟩)
    have count : ((afterSupervisor s a).tmo p d).timeoutCount =
        if Firing s p d then s.inc (s.tmo p d).timeoutCount else (s.tmo p d).timeoutCount := by
      split
      next firing => exact h.count p d ((expired p d).mpr firing)
      next quiet => exact h.no_count p d (mt (expired p d).mp quiet)
    exact (h.tmo p d).trans (by rw [timer, count]; rfl)
  · simp only [← expired]
    exact h.bits n
  · simp only [← expired] at due
    exact (h.time due).trans time
  · simp only [← expired] at none
    exact h.no_time none

/-! ## One strict expiry in a tick -/

/-- `u` is `s` after a supervisor's part in which the timer (p, d) expires in strict mode and cuts the frame of `r`, and
no other frame is cut (43_timeout.md R149, R151). -/
structure SingleCut (s : State) (p : Port) (d : Dir) (r : Port) (u : State) : Prop where
  cut : u.rxp r = (s.rxp r).atBoundary
  kept : ∀ q, q ≠ r → u.rxp q = s.rxp q
  owner : ∀ h, u.extOwner = some h ↔ s.extOwner = some h ∧ r ≠ hostPort h
  timer : u.timer p d = 0
  source : u.timer r .rx = 0
  count : (u.tmo p d).timeoutCount = s.inc (s.tmo p d).timeoutCount
  bit : u.faultBitmap.getLsbD (faultBit .timeoutError p) = true
  time : u.faultTime = u.now

/-- The timers before and after (p, d) in the supervisor's order. -/
theorem timersInOrder_split (p : Port) (d : Dir) :
    timersInOrder =
        timersInOrder.take (timerPlace p d) ++ (p, d) :: timersInOrder.drop (timerPlace p d + 1) ∧
      (timersInOrder.take (timerPlace p d)).map (fun x => timerPlace x.1 x.2) = List.range' 0 (timerPlace p d) ∧
      (timersInOrder.drop (timerPlace p d + 1)).map (fun x => timerPlace x.1 x.2) =
        List.range' (timerPlace p d + 1) (7 - timerPlace p d) := by
  cases p <;> cases d <;> decide

/-- The iteration that cuts, where nothing has been cut before it. -/
theorem singleCut_superviseOne {s u : State} {p r : Port} {d : Dir} (cuts : Cuts s p d r)
    (before : Supervised s 0 (timerPlace p d) u) (quiet : ∀ q, ¬ CutIn s 0 (timerPlace p d) q) :
    SingleCut s p d r (superviseOne u p d) := by
  have cuts' : Cuts u p d r := (before.cuts_iff (Nat.le_refl _) r).mpr ⟨cuts, quiet r⟩
  obtain ⟨firing, -, -⟩ := id cuts'
  obtain ⟨timer, rx⟩ := timer_superviseOne_of_cuts cuts'
  refine ⟨?_, fun q other => ?_, fun g => ?_, timer, rx, ?_, ?_, ?_⟩
  · rw [rxp_superviseOne_of_cuts cuts', before.kept r (quiet r)]
  · rw [rxp_superviseOne_of_not_cuts fun c => other ((cuts_iff_eq cuts' q).mp c).symm, before.kept q (quiet q)]
  · rw [superviseOne_extOwner, before.owner, and_iff_left (quiet _), cuts_iff_eq cuts']
  · rw [timeoutCount_superviseOne, if_pos ⟨⟨rfl, rfl⟩, firing⟩,
      before.no_count p d (not_expired_of_place rfl ⟨rfl, rfl⟩), State.inc, State.inc, before.ticked.1]
  · exact (superviseOne_getLsbD u p d _).mpr (.inr ⟨firing, rfl⟩)
  · rw [superviseOne_faultTime, if_pos firing, superviseOne_now]

/-- Iterations after it that cut nothing leave what the cut has done. -/
theorem SingleCut.of_quiet {s t u : State} {p r : Port} {d : Dir} {n : Nat} (h : SingleCut s p d r t)
    (after : Supervised t (timerPlace p d + 1) n u) (quiet : ∀ q, ¬ CutIn t (timerPlace p d + 1) n q)
    (raised : RaisedNow t u) : SingleCut s p d r u := by
  have off : ¬ t.running r .rx = true := fun run => ((running_rx t r).mp run).2 (by rw [h.cut]; rfl)
  have intact : ∀ q e, Intact t (timerPlace p d + 1) n q e := fun q e x _ => quiet x
  refine ⟨(after.kept r (quiet r)).trans h.cut, fun q other => (after.kept q (quiet q)).trans (h.kept q other),
    fun g => ?_, ?_, ?_, ?_, (after.bits _).mpr (.inl h.bit), ?_⟩
  · rw [after.owner, and_iff_left (quiet _), h.owner]
  · rw [after.timer p d (intact p d), if_neg fun range => by omega, h.timer]
  · rw [after.timer r .rx (intact r .rx), ownTimer_of_stopped off, ite_self, h.source]
  · rw [after.no_count p d fun ⟨late, _⟩ => by omega, h.count]
  · obtain ⟨now, same | time⟩ := raised
    · rw [same.2, h.time, now]
    · rw [time, now]

theorem afterSupervisor_split (s : State) (a : Ack) (p : Port) (d : Dir) :
    afterSupervisor s a =
      superviseAll (timersInOrder.drop (timerPlace p d + 1))
        (superviseOne (superviseAll (timersInOrder.take (timerPlace p d)) (tickGate s a)) p d) := by
  obtain ⟨split, -, -⟩ := timersInOrder_split p d
  rw [afterSupervisor, supervise_eq]
  conv_lhs => rw [split]
  rw [superviseAll, List.foldl_append]
  rfl

section
variable {s : State} {p q : Port} {d e : Dir}
  (others : ∀ q e, (q, e) ≠ (p, d) → Firing s q e → (s.tmo q e).resyncEnabled = false)
include others

theorem not_cuts_of_place (far : timerPlace q e ≠ timerPlace p d) (x : Port) : ¬ Cuts s q e x :=
  fun ⟨firing, strict, _⟩ => by
    have other : (q, e) ≠ (p, d) := fun same => far (timerPlace_inj.mpr (Prod.mk.inj same))
    rw [others q e other firing] at strict
    cases strict

/-- What is relaxed when the tick begins is relaxed, or not due, after the iteration of (p, d). -/
theorem not_cuts_superviseOne {u : State} (before : Supervised s 0 (timerPlace p d) u)
    (late : timerPlace p d + 1 ≤ timerPlace q e) (x : Port) : ¬ Cuts (superviseOne u p d) q e x := by
  rintro ⟨firing, strict, -⟩
  have other : ¬ (q = p ∧ e = d) := fun own => by have := timerPlace_inj.mpr own; omega
  obtain ⟨due, -⟩ := (before.firing_iff (by omega)).mp (firing.of_superviseOne other)
  rw [resyncEnabled_of_portsTicked (portsTicked_superviseOne u p d), resyncEnabled_of_portsTicked before.ticked,
    others q e (by simpa using other) due] at strict
  cases strict

/-- The supervisor's part of a tick with one strict expiry, in any state. -/
theorem singleCut_afterSupervisor (a : Ack) {r : Port} (cuts : Cuts s p d r) :
    SingleCut s p d r (afterSupervisor s a) := by
  obtain ⟨-, first, last⟩ := timersInOrder_split p d
  have before := (supervised_start (s := s) (u := tickGate s a) rfl 0).run first (Nat.le_refl 0)
    fun q e _ below x c => absurd c (not_cuts_of_place others (by omega) x)
  have quiet : ∀ x, ¬ CutIn s 0 (timerPlace p d) x := fun x ⟨q, e, _, below, c⟩ =>
    not_cuts_of_place others (by omega) x c
  rw [afterSupervisor_split s a p d]
  rw [Nat.zero_add] at before
  generalize superviseAll (timersInOrder.take (timerPlace p d)) (tickGate s a) = u at before
  have later : ∀ q e, timerPlace p d + 1 ≤ timerPlace q e → ∀ x, ¬ Cuts (superviseOne u p d) q e x :=
    fun _ _ => not_cuts_superviseOne others before
  have after := (supervised_start (u := superviseOne u p d) rfl (timerPlace p d + 1)).run last (Nat.le_refl _)
    fun q e late _ x c => absurd c (later q e late x)
  exact (singleCut_superviseOne cuts before quiet).of_quiet after (fun x ⟨q, e, late, _, c⟩ => later q e late x c)
    (superviseAll_rel RaisedNow.refl RaisedNow.trans raisedNow_superviseOne _ _)

end

/-! ## Any number of strict expiries in a tick -/

/-- Settles O35: the only strict expiry by `singleCut_afterSupervisor`, any number of them in order by `Supervised` at
the end of the supervisor's order. -/
theorem strictTimeoutsResetTheParser : Obligations.StrictTimeoutsResetTheParser := by
  refine ⟨fun s a p src d awake calm firing strict source others => ?_, fun s a inv awake calm => ?_⟩
  · have h := singleCut_afterSupervisor others a ⟨firing, strict, source⟩
    have ports := keepsPorts_afterSupervisor s a
    refine ⟨_, exec_tick_of_calm awake calm, h.cut, h.kept, fun q => ?_, Option.ext fun g => ?_, h.timer, h.source,
      h.count, ?_, h.bit, h.time.trans (by simp)⟩
    · change ((afterSupervisor s a).port q).txFifo = _ ∧ ((afterSupervisor s a).port q).rxFifo = _
      rw [ports q]
      exact ⟨rfl, rfl⟩
    · exact (h.owner g).trans (released_eq_some s.extOwner src g).symm
    · change ((afterSupervisor s a).tmo p d).packetCount = _
      rw [State.tmo, (portsTicked_supervise (tickGate s a)).2 p |>.tmo d]
      rfl
  · have h := supervised_afterSupervisor a fun _ _ _ _ => ((frameInv_iff s).mp inv).1
    have time : (afterSupervisor s a).now = s.inc s.now := by simp
    have timer : ∀ p d, Intact s 0 8 p d → (afterSupervisor s a).timer p d = ownTimer s p d := fun p d intact =>
      (h.timer p d intact).trans (if_pos ⟨Nat.zero_le _, timerPlace_lt p d⟩)
    simp only [cut_iff, expires_iff]
    refine ⟨_, exec_tick_of_calm awake calm, rfl, h.owner, keepsPorts_afterSupervisor s a, h.cut, h.kept, h.tmo,
      fun p d expired => ⟨h.count p d expired, ?_⟩, h.no_count,
      fun p d r source cut => h.stopped p d fun intact => intact r source cut,
      fun p d quiet intact => (timer p d intact).trans (ownTimer_of_not_firing quiet), h.bits,
      fun expired => (h.time expired).trans time, h.no_time, fun g owned firing strict => h.no_count .ext .tx ?_⟩
    · obtain ⟨-, -, firing, -⟩ := expired
      by_cases intact : Intact s 0 8 p d
      · exact (timer p d intact).trans (ownTimer_of_firing firing)
      · exact h.stopped p d intact
    · rintro ⟨-, -, -, intact⟩
      have before : timerPlace (hostPort g) .rx < timerPlace .ext .tx := by cases g <;> decide
      exact intact (hostPort g) (by simp [resyncSource, owned])
        ⟨hostPort g, .rx, Nat.zero_le _, before, firing, strict, rfl⟩

end Sys2Proof.Machine
end

section
/-!
PROOF. The power gate as a function (44_powergate.md R160 to R170): the request bits, what a request, a release and a
tick do to the FSM, row by row, and the one move of the gate that an event can make.
-/

namespace Sys2Proof.Machine

/-! ## The request bits -/

theorem covers_iff_names (d : DirField) (e : Dir) : covers d e = true ↔ Names d e := by
  cases d <;> cases e <;> simp [covers, Names]

theorem writeBits_get (old : PerDir Bool) (d : DirField) (v : Bool) (e : Dir) :
    (writeBits old d v).get e = if Names d e then v else old.get e := by
  simp only [← covers_iff_names]
  cases e <;> rfl

/-- The request bits after a write: those that the host and the direction field name (44_powergate.md R162, R163). -/
theorem PowerGate.bit_writeTrx (g : PowerGate) (h k : HostPort) (d : DirField) (v : Bool) (e : Dir) :
    ((g.writeTrx h d v).trxReq.get k).get e = if k = h ∧ Names d e then v else (g.trxReq.get k).get e := by
  rw [PowerGate.writeTrx, PerHost.get_set]
  split
  next same => subst same; simp only [writeBits_get, true_and]
  next other => simp only [other, false_and, if_false]

theorem PowerGate.active_iff (g : PowerGate) (h : HostPort) :
    g.active h = true ↔ ∃ e, (g.trxReq.get h).get e = true := by
  rw [PowerGate.active, Bool.or_eq_true]
  constructor
  · rintro (tx | rx)
    · exact ⟨.tx, tx⟩
    · exact ⟨.rx, rx⟩
  · rintro ⟨_ | _, bit⟩
    · exact .inl bit
    · exact .inr bit

theorem PowerGate.hubActive_iff (g : PowerGate) : g.hubActive = true ↔ ∃ h e, (g.trxReq.get h).get e = true := by
  simp only [PowerGate.hubActive, Bool.or_eq_true, ← PowerGate.active_iff]
  constructor
  · rintro ((active | active) | active) <;> exact ⟨_, active⟩
  · rintro ⟨_ | _ | _, active⟩ <;> simp [active]

theorem PowerGate.hubActive_eq_false_iff (g : PowerGate) :
    g.hubActive = false ↔ ∀ h e, (g.trxReq.get h).get e = false := by
  rw [← Bool.not_eq_true, PowerGate.hubActive_iff]
  simp only [not_exists, Bool.not_eq_true]

/-- A direction field other than none names a direction. -/
theorem exists_names {d : DirField} (named : d ≠ .none) : ∃ e, Names d e := by
  cases d
  · exact absurd rfl named
  · exact ⟨.tx, .inr (.inl ⟨rfl, rfl⟩)⟩
  · exact ⟨.rx, .inr (.inr ⟨rfl, rfl⟩)⟩
  · exact ⟨.tx, .inl rfl⟩

theorem PowerGate.hubActive_writeTrx_true (g : PowerGate) (h : HostPort) {d : DirField} (named : d ≠ .none) :
    (g.writeTrx h d true).hubActive = true := by
  obtain ⟨e, he⟩ := exists_names named
  exact (PowerGate.hubActive_iff _).mpr ⟨h, e, by rw [PowerGate.bit_writeTrx, if_pos ⟨rfl, he⟩]⟩

/-- Clearing bits wakes no hub. -/
theorem PowerGate.hubActive_writeTrx_false {g : PowerGate} (idle : g.hubActive = false) (h : HostPort)
    (d : DirField) : (g.writeTrx h d false).hubActive = false := by
  rw [PowerGate.hubActive_eq_false_iff] at idle ⊢
  intro k e
  rw [PowerGate.bit_writeTrx, idle, ite_self]

/-! ## A request, a release and a tick -/

section
variable {g : PowerGate} {h : HostPort} {d : DirField}

theorem PowerGate.requested_of_idle (idle : g.pgState = .idle) :
    (g.writeTrx h d true).requested = { g.writeTrx h d true with pgState := .prepare } := by
  simp only [PowerGate.requested, PowerGate.writeTrx, idle]

theorem PowerGate.requested_of_wait (wait : g.pgState = .wait) :
    (g.writeTrx h d true).requested = { g.writeTrx h d true with pgState := .ready, settleCnt := 0 } := by
  simp only [PowerGate.requested, PowerGate.writeTrx, wait]

theorem PowerGate.requested_of_ckon (ckon : g.pgState = .ckon) :
    (g.writeTrx h d true).requested = { g.writeTrx h d true with clkRetry := 0 } := by
  simp only [PowerGate.requested, PowerGate.writeTrx, ckon]

theorem PowerGate.requested_of_others (others : g.pgState = .prepare ∨ g.pgState = .ready ∨ g.pgState = .ckoff) :
    (g.writeTrx h d true).requested = g.writeTrx h d true := by
  obtain p | p | p := others <;> simp only [PowerGate.requested, PowerGate.writeTrx, p]

theorem PowerGate.cleared_of_active (active : (g.writeTrx h d false).hubActive = true) :
    g.cleared h d = g.writeTrx h d false :=
  if_pos active

section
variable (last : (g.writeTrx h d false).hubActive = false)
include last

theorem PowerGate.cleared_of_inactive : g.cleared h d = (g.writeTrx h d false).released :=
  if_neg (ne_true_of_eq_false last)

theorem PowerGate.cleared_of_ready (ready : g.pgState = .ready) :
    g.cleared h d = { g.writeTrx h d false with pgState := .wait, settleCnt := 0 } := by
  simp only [PowerGate.cleared_of_inactive last, PowerGate.released, PowerGate.writeTrx, ready]

theorem PowerGate.cleared_of_ckon (ckon : g.pgState = .ckon) :
    g.cleared h d = { g.writeTrx h d false with pgState := .ckoff, clkReq := .lowPower, clkRetry := 0 } := by
  simp only [PowerGate.cleared_of_inactive last, PowerGate.released, PowerGate.writeTrx, ckon]

end

/-- Outside READY and CKON a CLEAR_TRX only clears the bits, the last ones too (44_powergate.md R163). -/
theorem PowerGate.cleared_of_others (not_ready : g.pgState ≠ .ready) (not_ckon : g.pgState ≠ .ckon) :
    g.cleared h d = g.writeTrx h d false := by
  cases last : (g.writeTrx h d false).hubActive with
  | true => exact PowerGate.cleared_of_active last
  | false =>
    rw [PowerGate.cleared_of_inactive last, PowerGate.released]
    split
    next ready => exact absurd ready not_ready
    next ckon => exact absurd ckon not_ckon
    all_goals rfl

theorem PowerGate.cleared_trxReq (g : PowerGate) (h : HostPort) (d : DirField) :
    (g.cleared h d).trxReq = (g.writeTrx h d false).trxReq := by
  cases last : (g.writeTrx h d false).hubActive with
  | true => rw [PowerGate.cleared_of_active last]
  | false =>
    by_cases ready : g.pgState = .ready
    · rw [PowerGate.cleared_of_ready last ready]
    by_cases ckon : g.pgState = .ckon
    · rw [PowerGate.cleared_of_ckon last ckon]
    rw [PowerGate.cleared_of_others ready ckon]

end

section
variable {g : PowerGate} {c : Params} {a : Ack}

theorem PowerGate.tick_of_idle_or_ready (at_rest : g.pgState = .idle ∨ g.pgState = .ready) : g.tick c a = g := by
  obtain h | h := at_rest <;> simp only [PowerGate.tick, h]

theorem PowerGate.tick_of_prepare_active (prepare : g.pgState = .prepare) (active : g.hubActive = true) :
    g.tick c a = { g with pgState := .ckon, clkReq := .highSpeed, clkRetry := 0 } := by
  simp only [PowerGate.tick, prepare, active, if_true]

theorem PowerGate.tick_of_prepare_inactive (prepare : g.pgState = .prepare) (inactive : g.hubActive = false) :
    g.tick c a = { g with pgState := .idle } := by
  simp only [PowerGate.tick, prepare, inactive, Bool.false_eq_true, if_false]

theorem PowerGate.tick_of_acquired (ckon : g.pgState = .ckon) (polls : g.clkRetry < c.clkRetryMax)
    (granted : a = .highSpeed) :
    g.tick c a = { g with clkSrc := .highSpeed, clkFail := false, pgState := .ready } := by
  simp only [PowerGate.tick, ckon, PowerGate.pollAcquire, if_pos polls, if_pos granted]

theorem PowerGate.tick_of_not_acquired (ckon : g.pgState = .ckon) (polls : g.clkRetry < c.clkRetryMax)
    (missing : a ≠ .highSpeed) :
    g.tick c a = { g with
      clkRetry := g.clkRetry + 1
      clkFail := g.clkFail || decide (g.clkRetry + 1 = c.clkRetryMax) } := by
  simp only [PowerGate.tick, ckon, PowerGate.pollAcquire, if_pos polls, if_neg missing]
  split <;> simp [*]

theorem PowerGate.tick_of_exhausted (ckon : g.pgState = .ckon) (exhausted : c.clkRetryMax ≤ g.clkRetry) :
    g.tick c a = g := by
  simp only [PowerGate.tick, ckon, PowerGate.pollAcquire, if_neg (Nat.not_lt.mpr exhausted)]

theorem PowerGate.tick_of_settling (wait : g.pgState = .wait) (settling : g.settleCnt + 1 < c.settleTicks) :
    g.tick c a = { g with settleCnt := g.settleCnt + 1 } := by
  simp only [PowerGate.tick, wait, PowerGate.settle, if_neg (Nat.not_le.mpr settling)]

theorem PowerGate.tick_of_settled (wait : g.pgState = .wait) (settled : c.settleTicks ≤ g.settleCnt + 1) :
    g.tick c a = { g with pgState := .ckoff, clkReq := .lowPower, clkRetry := 0, settleCnt := 0 } := by
  simp only [PowerGate.tick, wait, PowerGate.settle, if_pos settled]

theorem PowerGate.tick_of_released (ckoff : g.pgState = .ckoff) (granted : a = .lowPower) :
    g.tick c a = { g with clkSrc := .lowPower, pgState := if g.hubActive then .prepare else .idle } := by
  simp only [PowerGate.tick, ckoff, PowerGate.pollRelease, if_pos granted]
  rfl

theorem PowerGate.tick_of_release_failed (ckoff : g.pgState = .ckoff) (missing : a ≠ .lowPower)
    (last : g.clkRetry + 1 = c.clkRetryMax) :
    g.tick c a = { g with
      clkFail := true, clkRetry := 0, pgState := if g.hubActive then .prepare else .idle } := by
  simp only [PowerGate.tick, ckoff, PowerGate.pollRelease, if_neg missing, if_pos last]
  rfl

theorem PowerGate.tick_of_not_released (ckoff : g.pgState = .ckoff) (missing : a ≠ .lowPower)
    (more : g.clkRetry + 1 ≠ c.clkRetryMax) : g.tick c a = { g with clkRetry := g.clkRetry + 1 } := by
  simp only [PowerGate.tick, ckoff, PowerGate.pollRelease, if_neg missing, if_neg more]

end

/-! ## The events of the family -/

theorem exec_openHub (s : State) :
    exec .openHub s = .next { s with
      pg := { s.pg with opened := true }
      irqMasked := if s.opened then s.irqMasked else false
      result := .ok } := by
  change execOpen s = _
  unfold execOpen
  split
  next isOpen => rw [← isOpen]; rfl
  next => rfl

theorem exec_closeHub_of_open {s : State} (isOpen : s.opened = true) :
    exec .closeHub s = .next ((s.setPg s.pg.close).withResult .ok) := by
  change execClose s = _
  rw [execClose, if_pos isOpen, reply_eq]

theorem exec_closeHub_of_closed {s : State} (closed : s.opened = false) :
    exec .closeHub s = .next (s.withResult .ok) := by
  change execClose s = _
  rw [execClose, closed, if_neg Bool.false_ne_true, reply_eq]

/-- What SET_TRX and CLEAR_TRX have in common: the two errors, then the gate `g` that the operation leaves
(44_powergate.md R165). -/
def trxOutcome (d : DirField) (s : State) (g : PowerGate) : Host.Outcome State Fault Refusal :=
  if d = .none then fail s .invalidDirection
  else if s.opened = false then fail s .notOpen
  else reply (s.setPg g) .ok

theorem exec_setTrx (h : HostPort) (d : DirField) (s : State) :
    exec (.setTrx h d) s = trxOutcome d s (s.pg.writeTrx h d true).requested := rfl

theorem exec_clearTrx (h : HostPort) (d : DirField) (s : State) :
    exec (.clearTrx h d) s = trxOutcome d s (s.pg.cleared h d) := rfl

theorem exec_tick (a : Ack) (s : State) : exec (.tick a) s = .next ((tickState s a).withResult .none) := rfl

section
variable {d : DirField} {s : State} {g : PowerGate}

theorem trxOutcome_of_none (none : d = .none) : trxOutcome d s g = .next { s with result := .err .invalidDirection } :=
  if_pos none

theorem trxOutcome_of_closed (named : d ≠ .none) (closed : s.opened = false) :
    trxOutcome d s g = .next { s with result := .err .notOpen } := by
  rw [trxOutcome, if_neg named, if_pos closed]
  rfl

theorem trxOutcome_of_open (named : d ≠ .none) (isOpen : s.opened = true) :
    trxOutcome d s g = .next { s with pg := g, result := .ok } := by
  rw [trxOutcome, if_neg named, if_neg (ne_false_of_eq_true isOpen)]
  rfl

/-- Where the gate moves, the operation named a direction and the hub was open (44_powergate.md R165). -/
theorem trxOutcome_cases {t : State} (e : trxOutcome d s g = .next t) :
    t.pg = s.pg ∨ (d ≠ .none ∧ s.opened = true ∧ t.pg = g) := by
  by_cases none : d = .none
  · rw [trxOutcome_of_none none] at e
    cases e
    exact .inl rfl
  · by_cases isOpen : s.opened = true
    · rw [trxOutcome_of_open none isOpen] at e
      cases e
      exact .inr ⟨none, isOpen, rfl⟩
    · rw [trxOutcome_of_closed none (Bool.eq_false_of_not_eq_true isOpen)] at e
      cases e
      exact .inl rfl

end

/-! ## The move of the gate at one event -/

/-- The power gate after event `i`: only the events of this family and the tick move it, and SET_TRX and CLEAR_TRX only
on an open hub (44_powergate.md R160 to R165, R170). -/
inductive PowerMove (c : Params) (g : PowerGate) : Instr → PowerGate → Prop
  | kept (i : Instr) : PowerMove c g i g
  | openHub : PowerMove c g .openHub { g with opened := true }
  | closeHub : PowerMove c g .closeHub g.close
  | setTrx (h : HostPort) (d : DirField) (named : d ≠ .none) (isOpen : g.opened = true) :
    PowerMove c g (.setTrx h d) (g.writeTrx h d true).requested
  | clearTrx (h : HostPort) (d : DirField) (isOpen : g.opened = true) : PowerMove c g (.clearTrx h d) (g.cleared h d)
  | tick (a : Ack) : PowerMove c g (.tick a) (g.tick c a)

/-- What an event can do to the power gate. -/
theorem powerMove_of_exec {s t : State} {i : Instr} (e : exec i s = .next t) : PowerMove s.prm s.pg i t.pg := by
  by_cases same : t.pg = s.pg
  · rw [same]
    exact .kept i
  have written : i = .openHub ∨ i = .closeHub ∨ (∃ h d, i = .setTrx h d) ∨ (∃ h d, i = .clearTrx h d) ∨
      ∃ a, i = .tick a := by
    obtain ⟨u, r, effect, rfl⟩ := exec_hasEffect e
    exact effect.pg_written same
  obtain rfl | rfl | ⟨h, d, rfl⟩ | ⟨h, d, rfl⟩ | ⟨a, rfl⟩ := written
  · rw [exec_openHub] at e
    cases e
    exact .openHub
  · by_cases isOpen : s.opened = true
    · rw [exec_closeHub_of_open isOpen] at e
      cases e
      exact .closeHub
    · rw [exec_closeHub_of_closed (Bool.eq_false_of_not_eq_true isOpen)] at e
      cases e
      exact absurd rfl same
  · obtain kept | ⟨named, isOpen, moved⟩ := trxOutcome_cases e
    · exact absurd kept same
    · exact moved ▸ .setTrx h d named isOpen
  · obtain kept | ⟨-, isOpen, moved⟩ := trxOutcome_cases e
    · exact absurd kept same
    · exact moved ▸ .clearTrx h d isOpen
  · rw [exec_tick] at e
    cases e
    rw [State.withResult_pg, tickState_pg]
    exact .tick a

theorem exec_prm {s t : State} {i : Instr} (e : exec i s = .next t) : t.prm = s.prm := by
  obtain ⟨u, r, effect, rfl⟩ := exec_hasEffect e
  exact effect.prm_schedule.1

end Sys2Proof.Machine
end

section
/-!
PROOF. The power invariant (44_powergate.md R171): what each state of the FSM says of the clock and of the requests, and
the ranges of 10_state.md R27, as a condition on the gate alone that every move keeps.
-/

namespace Sys2Proof.Machine

/-! ## The condition on the gate -/

/-- What the gate's clock and requests are in state `p` of the FSM (44_powergate.md R166, R171). -/
abbrev PowerGate.FitsState (c : Params) (g : PowerGate) (p : PgState) : Prop :=
  match p with
  | .idle => g.clkReq = .lowPower ∧ g.hubActive = false
  | .prepare => g.clkReq = .lowPower
  | .ckon => g.clkReq = .highSpeed ∧ g.hubActive = true
  | .ready => g.clkSrc = .highSpeed ∧ g.clkReq = .highSpeed ∧ g.hubActive = true
  | .wait => g.clkSrc = .highSpeed ∧ g.clkReq = .highSpeed ∧ g.hubActive = false
  | .ckoff => g.clkReq = .lowPower ∧ g.clkRetry < c.clkRetryMax

/-- The power invariant as a condition on the gate. -/
structure PowerOk (c : Params) (g : PowerGate) : Prop where
  fits : g.FitsState c g.pgState
  closed : g.opened = false → g.pgState = .idle ∧ g.trxReq = .all (.all false)
  retry_le : g.clkRetry ≤ c.clkRetryMax
  settle_lt : g.settleCnt < c.settleTicks

theorem powerInv_iff (s : State) : PowerInv s ↔ PowerOk s.prm s.pg := by
  constructor
  · rintro ⟨ready, wait, ckon, idle, prepare, ckoff, closed, retry_le, retry_lt, settle_lt⟩
    have fits_at : ∀ p, s.pgState = p → s.pg.FitsState s.prm p
      | .idle => idle
      | .prepare => prepare
      | .ckon => ckon
      | .ready => ready
      | .wait => wait
      | .ckoff => fun p => ⟨ckoff p, retry_lt p⟩
    exact ⟨fits_at _ rfl, closed, retry_le, settle_lt⟩
  · rintro ⟨fits, closed, retry_le, settle_lt⟩
    have fits_at : ∀ p, s.pgState = p → s.pg.FitsState s.prm p := fun p e => e ▸ fits
    exact ⟨fits_at .ready, fits_at .wait, fits_at .ckon, fits_at .idle, fits_at .prepare, fun p => (fits_at .ckoff p).1,
      closed, retry_le, fun p => (fits_at .ckoff p).2, settle_lt⟩

section
variable {c : Params} {g : PowerGate}

theorem PowerOk.fits_at (h : PowerOk c g) {p : PgState} (e : g.pgState = p) : g.FitsState c p := e ▸ h.fits

/-- Outside IDLE the hub is open (44_powergate.md R161, R165). -/
theorem PowerOk.open_of_awake (h : PowerOk c g) (awake : g.pgState ≠ .idle) : g.opened = true := by
  by_contra shut
  exact awake (h.closed (Bool.eq_false_of_not_eq_true shut)).1

/-- On an open hub nothing is asked of a closed one. -/
theorem PowerOk.of_open (isOpen : g.opened = true) {p : PgState} (e : g.pgState = p) (fits : g.FitsState c p)
    (retry_le : g.clkRetry ≤ c.clkRetryMax) (settle_lt : g.settleCnt < c.settleTicks) : PowerOk c g :=
  ⟨e.symm ▸ fits, fun closed => absurd (isOpen.symm.trans closed) (by decide), retry_le, settle_lt⟩

/-! ## The moves that keep it -/

theorem PowerOk.close (hc : c.Wf) : PowerOk c g.close := by
  obtain ⟨-, -, -, -, settle_pos, -⟩ := hc
  exact ⟨⟨rfl, rfl⟩, fun _ => ⟨rfl, rfl⟩, Nat.zero_le _, settle_pos⟩

/-- The request bits may change where the hub stays as active as it was, and in the two states that ask nothing of
them. -/
theorem PowerOk.with_requests (h : PowerOk c g) (isOpen : g.opened = true) {r : PerHost (PerDir Bool)}
    (admitted : PowerGate.hubActive { g with trxReq := r } = g.hubActive ∨ g.pgState = .prepare ∨ g.pgState = .ckoff) :
    PowerOk c { g with trxReq := r } := by
  refine .of_open isOpen rfl ?_ h.retry_le h.settle_lt
  have fits := h.fits
  obtain same | prepare | ckoff := admitted
  · simp only [PowerGate.FitsState, same]
    exact fits
  · simp only [PowerGate.FitsState, prepare] at fits ⊢
    exact fits
  · simp only [PowerGate.FitsState, ckoff] at fits ⊢
    exact fits

/-- A request wakes the hub, and where the clock is still high-speed it commits at once (44_powergate.md R162). -/
theorem PowerOk.requested (hc : c.Wf) (h : PowerOk c g) (isOpen : g.opened = true) (k : HostPort) {d : DirField}
    (named : d ≠ .none) : PowerOk c (g.writeTrx k d true).requested := by
  have active := g.hubActive_writeTrx_true k named
  obtain ⟨-, -, -, -, settle_pos, -⟩ := hc
  cases p : g.pgState with
  | idle =>
    rw [PowerGate.requested_of_idle p]
    exact .of_open isOpen rfl (h.fits_at p).1 h.retry_le h.settle_lt
  | wait =>
    obtain ⟨src, req, -⟩ := h.fits_at p
    rw [PowerGate.requested_of_wait p]
    exact .of_open isOpen rfl ⟨src, req, active⟩ h.retry_le settle_pos
  | ckon =>
    rw [PowerGate.requested_of_ckon p]
    exact .of_open isOpen p ⟨(h.fits_at p).1, active⟩ (Nat.zero_le _) h.settle_lt
  | prepare =>
    rw [PowerGate.requested_of_others (.inl p)]
    exact h.with_requests isOpen (.inr (.inl p))
  | ready =>
    obtain ⟨-, -, before⟩ := h.fits_at p
    rw [PowerGate.requested_of_others (.inr (.inl p))]
    exact h.with_requests isOpen (.inl (active.trans before.symm))
  | ckoff =>
    rw [PowerGate.requested_of_others (.inr (.inr p))]
    exact h.with_requests isOpen (.inr (.inr p))

/-- Clearing bits leaves the hub active, or it ends the last request and with it READY and CKON (44_powergate.md
R163). -/
theorem PowerOk.cleared (hc : c.Wf) (h : PowerOk c g) (isOpen : g.opened = true) (k : HostPort) (d : DirField) :
    PowerOk c (g.cleared k d) := by
  obtain ⟨-, -, -, retry_pos, settle_pos, -⟩ := hc
  cases after : (g.writeTrx k d false).hubActive with
  | true =>
    have before : g.hubActive = true := by
      by_contra idle
      have still := PowerGate.hubActive_writeTrx_false (Bool.eq_false_of_not_eq_true idle) k d
      exact Bool.false_ne_true (still.symm.trans after)
    rw [PowerGate.cleared_of_active after]
    exact h.with_requests isOpen (.inl (after.trans before.symm))
  | false =>
    by_cases ready : g.pgState = .ready
    · obtain ⟨src, req, -⟩ := h.fits_at ready
      rw [PowerGate.cleared_of_ready after ready]
      exact .of_open isOpen rfl ⟨src, req, after⟩ h.retry_le settle_pos
    by_cases ckon : g.pgState = .ckon
    · rw [PowerGate.cleared_of_ckon after ckon]
      exact .of_open isOpen rfl ⟨rfl, retry_pos⟩ (Nat.zero_le _) h.settle_lt
    rw [PowerGate.cleared_of_others ready ckon]
    refine h.with_requests isOpen ?_
    cases p : g.pgState with
    | idle => exact .inl (after.trans (h.fits_at p).2.symm)
    | prepare => exact .inr (.inl rfl)
    | ckon => exact absurd p ckon
    | ready => exact absurd p ready
    | wait => exact .inl (after.trans (h.fits_at p).2.2.symm)
    | ckoff => exact .inr (.inr rfl)

/-- The end of CKOFF, whatever the clock source and the failure flag (44_powergate.md R170). -/
theorem PowerOk.leave (h : PowerOk c g) (isOpen : g.opened = true) (req : g.clkReq = .lowPower) :
    PowerOk c { g with pgState := if g.hubActive then .prepare else .idle } := by
  refine .of_open isOpen rfl ?_ h.retry_le h.settle_lt
  cases active : g.hubActive
  · exact ⟨req, active⟩
  · exact req

/-- A tick moves the FSM only to a state that the clock and the requests fit (44_powergate.md R170). -/
theorem PowerOk.tick (hc : c.Wf) (h : PowerOk c g) (a : Ack) : PowerOk c (g.tick c a) := by
  obtain ⟨-, -, -, retry_pos, settle_pos, -⟩ := hc
  have isOpen : ∀ {p}, g.pgState = p → p ≠ .idle → g.opened = true := fun e awake => h.open_of_awake (e ▸ awake)
  cases p : g.pgState with
  | idle => rw [PowerGate.tick_of_idle_or_ready (.inl p)]; exact h
  | ready => rw [PowerGate.tick_of_idle_or_ready (.inr p)]; exact h
  | prepare =>
    have req := h.fits_at p
    cases active : g.hubActive with
    | true =>
      rw [PowerGate.tick_of_prepare_active p active]
      exact .of_open (isOpen p nofun) rfl ⟨rfl, active⟩ (Nat.zero_le _) h.settle_lt
    | false =>
      rw [PowerGate.tick_of_prepare_inactive p active]
      exact .of_open (isOpen p nofun) rfl ⟨req, active⟩ h.retry_le h.settle_lt
  | ckon =>
    obtain ⟨req, active⟩ := h.fits_at p
    by_cases polls : g.clkRetry < c.clkRetryMax
    · by_cases granted : a = .highSpeed
      · rw [PowerGate.tick_of_acquired p polls granted]
        exact .of_open (isOpen p nofun) rfl ⟨rfl, req, active⟩ h.retry_le h.settle_lt
      · rw [PowerGate.tick_of_not_acquired p polls granted]
        exact .of_open (isOpen p nofun) p ⟨req, active⟩ polls h.settle_lt
    · rw [PowerGate.tick_of_exhausted p (Nat.not_lt.mp polls)]
      exact h
  | wait =>
    by_cases settled : c.settleTicks ≤ g.settleCnt + 1
    · rw [PowerGate.tick_of_settled p settled]
      exact .of_open (isOpen p nofun) rfl ⟨rfl, retry_pos⟩ (Nat.zero_le _) settle_pos
    · rw [PowerGate.tick_of_settling p (Nat.not_le.mp settled)]
      exact .of_open (isOpen p nofun) p (h.fits_at p) h.retry_le (Nat.not_le.mp settled)
  | ckoff =>
    obtain ⟨req, polls⟩ := h.fits_at p
    by_cases granted : a = .lowPower
    · rw [PowerGate.tick_of_released p granted]
      have source_low : PowerOk c { g with clkSrc := .lowPower } :=
        .of_open (isOpen p nofun) p ⟨req, polls⟩ h.retry_le h.settle_lt
      exact source_low.leave (isOpen p nofun) req
    · by_cases last : g.clkRetry + 1 = c.clkRetryMax
      · rw [PowerGate.tick_of_release_failed p granted last]
        have given_up : PowerOk c { g with clkFail := true, clkRetry := 0 } :=
          .of_open (isOpen p nofun) p ⟨req, retry_pos⟩ (Nat.zero_le _) h.settle_lt
        exact given_up.leave (isOpen p nofun) req
      · rw [PowerGate.tick_of_not_released p granted last]
        have more : g.clkRetry + 1 < c.clkRetryMax := Nat.lt_of_le_of_ne polls last
        exact .of_open (isOpen p nofun) p ⟨req, more⟩ polls h.settle_lt

theorem PowerMove.powerOk {i : Instr} {g' : PowerGate} (hc : c.Wf) (move : PowerMove c g i g') (h : PowerOk c g) :
    PowerOk c g' := by
  cases move with
  | kept => exact h
  | openHub => exact .of_open rfl rfl h.fits h.retry_le h.settle_lt
  | closeHub => exact .close hc
  | setTrx k d named isOpen => exact h.requested hc isOpen k named
  | clearTrx k d isOpen => exact h.cleared hc isOpen k d
  | tick a => exact h.tick hc a

end

/-- Settles O4: every event moves the gate by a `PowerMove`, and every such move keeps the condition. -/
theorem stepKeepsThePowerInvariant : Obligations.StepKeepsThePowerInvariant := by
  intro s t hc inv h
  refine (powerInv_iff t).mpr (step_keeps (P := fun s => s.prm.Wf ∧ PowerOk s.prm s.pg) ?_ ?_
    ⟨hc, (powerInv_iff s).mp inv⟩ h).2
  · intro s t hs same
    rw [← same] at hs
    exact hs
  · rintro i s t ⟨hc, hs⟩ e
    rw [exec_prm e]
    exact ⟨hc, (powerMove_of_exec e).powerOk hc hs⟩

end Sys2Proof.Machine
end

section
/-!
PROOF. A clear and a request within the settle delay (44_powergate.md R172): while fewer ticks are to come than the
delay still takes, the gate stays in READY or in WAIT and its clock is not touched.
-/

namespace Sys2Proof.Machine

/-! ## Runs, event by event -/

theorem runEvents_cons_eq_some {i : Instr} {l : List Instr} {s v : State} (run : runEvents (i :: l) s = some v) :
    ∃ t, exec i s = .next t ∧ runEvents l t = some v := by
  rw [runEvents] at run
  cases e : exec i s with
  | next t => rw [e] at run; exact ⟨t, rfl, run⟩
  | fault r => rw [e] at run; cases run
  | refused r => rw [e] at run; cases run

theorem tickCount_cons (i : Instr) (l : List Instr) : tickCount (i :: l) = tickCount [i] + tickCount l := by
  rw [tickCount, ← List.singleton_append, List.filter_append, List.length_append]
  rfl

/-! ## The gate within the delay -/

/-- Gate `g`, opened in READY or in WAIT with more of the settle delay left than the `n` ticks to come, on the clock of
`g₀` (44_powergate.md R172). -/
structure Coalescing (c : Params) (g₀ : PowerGate) (n : Nat) (g : PowerGate) : Prop where
  isOpen : g.opened = true
  req : g.clkReq = g₀.clkReq
  src : g.clkSrc = g₀.clkSrc
  fewer : n < c.settleTicks
  waits : g.pgState = .ready ∨ (g.pgState = .wait ∧ g.settleCnt + n < c.settleTicks)

section
variable {c : Params} {g₀ g : PowerGate} {n : Nat}

theorem Coalescing.mono {m : Nat} (h : Coalescing c g₀ n g) (le : m ≤ n) : Coalescing c g₀ m g :=
  ⟨h.isOpen, h.req, h.src, Nat.lt_of_le_of_lt le h.fewer, h.waits.imp_right fun ⟨wait, delay⟩ => ⟨wait, by omega⟩⟩

/-- A request finds READY, or goes back to it from WAIT; the clock was never released (44_powergate.md R162). -/
theorem Coalescing.requested (h : Coalescing c g₀ n g) (k : HostPort) (d : DirField) :
    Coalescing c g₀ n (g.writeTrx k d true).requested ∧ (g.writeTrx k d true).requested.pgState = .ready := by
  obtain ready | ⟨wait, -⟩ := h.waits
  · rw [PowerGate.requested_of_others (.inr (.inl ready))]
    exact ⟨⟨h.isOpen, h.req, h.src, h.fewer, .inl ready⟩, ready⟩
  · rw [PowerGate.requested_of_wait wait]
    exact ⟨⟨h.isOpen, h.req, h.src, h.fewer, .inl rfl⟩, rfl⟩

/-- The end of the last request in READY starts the delay from 0 (44_powergate.md R163). -/
theorem Coalescing.cleared (h : Coalescing c g₀ n g) (k : HostPort) (d : DirField) :
    Coalescing c g₀ n (g.cleared k d) := by
  cases after : (g.writeTrx k d false).hubActive with
  | true =>
    rw [PowerGate.cleared_of_active after]
    exact ⟨h.isOpen, h.req, h.src, h.fewer, h.waits⟩
  | false =>
    obtain ready | ⟨wait, delay⟩ := h.waits
    · rw [PowerGate.cleared_of_ready after ready]
      exact ⟨h.isOpen, h.req, h.src, h.fewer, .inr ⟨rfl, (Nat.zero_add n).symm ▸ h.fewer⟩⟩
    · rw [PowerGate.cleared_of_others (ne_of_eq_of_ne wait nofun) (ne_of_eq_of_ne wait nofun)]
      exact ⟨h.isOpen, h.req, h.src, h.fewer, .inr ⟨wait, delay⟩⟩

/-- A tick uses up one of the ticks to come (44_powergate.md R170). -/
theorem Coalescing.tick (h : Coalescing c g₀ (1 + n) g) (a : Ack) : Coalescing c g₀ n (g.tick c a) := by
  obtain ready | ⟨wait, delay⟩ := h.waits
  · rw [PowerGate.tick_of_idle_or_ready (.inr ready)]
    exact h.mono (Nat.le_add_left n 1)
  · rw [PowerGate.tick_of_settling wait (by omega)]
    exact ⟨h.isOpen, h.req, h.src, by have := h.fewer; omega, .inr ⟨wait, by dsimp only; omega⟩⟩

/-- Every event but a CLOSE keeps the gate within the delay. -/
theorem PowerMove.coalescing {i : Instr} {g' : PowerGate} (move : PowerMove c g i g') (no_close : i ≠ .closeHub)
    (h : Coalescing c g₀ (tickCount [i] + n) g) : Coalescing c g₀ n g' := by
  have still : Coalescing c g₀ n g := h.mono (Nat.le_add_left n _)
  cases move with
  | kept => exact still
  | openHub => exact ⟨rfl, still.req, still.src, still.fewer, still.waits⟩
  | closeHub => exact absurd rfl no_close
  | setTrx k d => exact (still.requested k d).1
  | clearTrx k d => exact still.cleared k d
  | tick a => exact Coalescing.tick h a

theorem coalescing_runEvents {l : List Instr} {s v : State} (run : runEvents l s = some v)
    (no_close : .closeHub ∉ l) (h : Coalescing s.prm g₀ (tickCount l) s.pg) :
    Coalescing s.prm g₀ 0 v.pg := by
  induction l generalizing s with
  | nil => cases run; exact h
  | cons i l ih =>
    obtain ⟨t, e, run⟩ := runEvents_cons_eq_some run
    obtain ⟨first, rest⟩ := List.ne_and_not_mem_of_not_mem_cons no_close
    rw [tickCount_cons] at h
    have next := (powerMove_of_exec e).coalescing first.symm h
    rw [← exec_prm e] at next ⊢
    exact ih run rest next

end

/-- Settles O21: after the clear the whole delay is to come, a run with fewer ticks stays within it, and the request then
finds READY or goes back to it. -/
theorem rapidClearAndRequestCoalesce : Obligations.RapidClearAndRequestCoalesce := by
  intro s u v h g d e l ready isOpen named named' hc clear inactive no_close few run
  rw [exec_clearTrx, trxOutcome_of_open named isOpen] at clear
  cases clear
  have before : Coalescing s.prm s.pg (tickCount l) s.pg := ⟨isOpen, rfl, rfl, few, .inl ready⟩
  have after := coalescing_runEvents run no_close (before.cleared h d)
  refine ⟨after.req, after.src, _, trxOutcome_of_open named' after.isOpen, ?_⟩
  have again := after.requested g e
  exact ⟨again.2, again.1.req⟩

end Sys2Proof.Machine
end

section
/-!
PROOF. The events of the power-gate family (44_powergate.md R160 to R165, R170), each from the rows of the gate.
-/

namespace Sys2Proof.Machine

/-- Settles O20: the tick's part of the gate is `PowerGate.tick`, whose rows are these. -/
theorem tickMovesThePowerGate : Obligations.TickMovesThePowerGate := by
  intro s a
  have pg : ((tickState s a).withResult .none).pg = s.pg.tick s.prm a := tickState_pg s a
  refine ⟨_, exec_tick a s, tickState_now s a, ?_⟩
  rw [pg]
  exact ⟨PowerGate.tick_of_idle_or_ready, PowerGate.tick_of_prepare_active, PowerGate.tick_of_prepare_inactive,
    PowerGate.tick_of_acquired, PowerGate.tick_of_not_acquired, PowerGate.tick_of_exhausted,
    PowerGate.tick_of_settling, PowerGate.tick_of_settled, PowerGate.tick_of_released,
    PowerGate.tick_of_release_failed, PowerGate.tick_of_not_released⟩

/-- Settles O16. The line is low with the hub closed because the arming is one of its factors. -/
theorem openArmsAndCloseTearsDown : Obligations.OpenArmsAndCloseTearsDown := by
  intro s
  refine ⟨exec_openHub s, exec_closeHub_of_open, fun closed => ⟨exec_closeHub_of_closed closed, ?_⟩⟩
  rw [State.irqLine, closed, Bool.false_and, Bool.false_and]

/-- Settles O17, by the state of the FSM. -/
theorem setTrxRequestsAndWakes : Obligations.SetTrxRequestsAndWakes := by
  intro s h d
  refine ⟨trxOutcome_of_none, trxOutcome_of_closed, fun named isOpen => ?_, fun dir arg => rfl⟩
  refine ⟨_, trxOutcome_of_open named isOpen, ?_, fun k e => ?_⟩
  · cases p : s.pgState with
    | idle => rw [PowerGate.requested_of_idle p]; rfl
    | wait => rw [PowerGate.requested_of_wait p]; rfl
    | ckon => rw [PowerGate.requested_of_ckon p]; simp [PowerGate.writeTrx, p]
    | prepare => rw [PowerGate.requested_of_others (.inl p)]; simp [PowerGate.writeTrx, p]
    | ready => rw [PowerGate.requested_of_others (.inr (.inl p))]; simp [PowerGate.writeTrx, p]
    | ckoff => rw [PowerGate.requested_of_others (.inr (.inr p))]; simp [PowerGate.writeTrx, p]
  · rw [(PowerGate.requested_opened _).2, PowerGate.bit_writeTrx]
    split
    next written => simp only [written, and_self, true_or]
    next kept => simp only [kept, false_or]

/-- Settles O18: the requests left are those of the gate with the bits cleared. -/
theorem clearTrxReleasesTheLast : Obligations.ClearTrxReleasesTheLast := by
  intro s h d
  refine ⟨trxOutcome_of_none, trxOutcome_of_closed, fun named isOpen => ?_, fun dir arg => rfl⟩
  have left := s.pg.cleared_trxReq h d
  refine ⟨_, trxOutcome_of_open named isOpen, fun k e => ?_, ?_, ?_, ?_⟩
  · rw [left, PowerGate.bit_writeTrx]
    split
    next cut => simp only [cut, and_self, not_true_eq_false, false_and, Bool.false_eq_true]
    next kept => simp only [kept, not_false_eq_true, true_and]
  · simp only [left, ← PowerGate.hubActive_iff]
    rintro (active | ⟨not_ready, not_ckon⟩)
    · rw [PowerGate.cleared_of_active active]
      rfl
    · rw [PowerGate.cleared_of_others not_ready not_ckon]
      rfl
  · simp only [left, ← PowerGate.hubActive_eq_false_iff]
    intro last ready
    rw [PowerGate.cleared_of_ready last ready]
    rfl
  · simp only [left, ← PowerGate.hubActive_eq_false_iff]
    intro last ckon
    rw [PowerGate.cleared_of_ckon last ckon]
    rfl

theorem exec_isReady (h : HostPort) (s : State) :
    exec (.isReady h) s = .next { s with result := .okValue (bitValue (s.hostReady h)) } := rfl

theorem State.hostReady_iff (s : State) (h : HostPort) :
    s.hostReady h = true ↔
      s.pgState = .ready ∧ ((s.pg.trxReq.get h).tx = true ∨ (s.pg.trxReq.get h).rx = true) := by
  rw [State.hostReady, PowerGate.active, Bool.and_eq_true, decide_eq_true_eq, Bool.or_eq_true]

/-- Settles O19: a closed hub is in IDLE under the power invariant, so not in READY. -/
theorem isReadyAnswersTheCommitment : Obligations.IsReadyAnswersTheCommitment := by
  intro s h
  have not_committed : s.hostReady h ≠ true → exec (.isReady h) s = .next { s with result := .okValue 0 } :=
    fun no => by rw [exec_isReady, Bool.eq_false_of_not_eq_true no]; rfl
  simp only [← State.hostReady_iff]
  refine ⟨fun committed => ?_, not_committed, fun inv closed => not_committed fun committed => ?_, fun dir arg => rfl⟩
  · rw [exec_isReady, committed]
    rfl
  · have idle := (((powerInv_iff s).mp inv).closed closed).1
    have ready := ((s.hostReady_iff h).mp committed).1
    exact absurd (idle.symm.trans ready) nofun

end Sys2Proof.Machine
end

section
/-!
PROOF. XON and XOFF (45_flowcontrol.md R185 to R189, R193): the peer's keywords, and the edges of the hub's own XOFF, which
are a condition on one port over each effect of an event.
-/

namespace Sys2Proof.Machine

/-! ## The peer's keywords -/

/-- Settles O30: both events write the flag of their port, in every state. -/
theorem lineXoffAndXonSetThePeerFlag : Obligations.LineXoffAndXonSetThePeerFlag := fun _ _ => ⟨rfl, rfl⟩

/-! ## The edges of the hub's own XOFF -/

/-- From port record `q` to `x` the hub's own XOFF rises below the low threshold of free space and falls at or above the
high one, or stays (45_flowcontrol.md R185, R186). -/
structure XoffEdges (c : Params) (q x : PortState) : Prop where
  rise : q.xoffAsserted = false → x.xoffAsserted = true → c.fifoDepth - x.rxFifo.length < c.xoffAvailLow
  fall : q.xoffAsserted = true → x.xoffAsserted = false → c.xonAvailHigh ≤ c.fifoDepth - x.rxFifo.length

section
variable {c : Params} {q x : PortState}

theorem XoffEdges.of_eq (same : x.xoffAsserted = q.xoffAsserted) : XoffEdges c q x :=
  ⟨fun off on => absurd (same.symm.trans on) (by simp [off]), fun on off => absurd (same.symm.trans off) (by simp [on])⟩

/-- The watermark rule moves the level at its thresholds only (45_flowcontrol.md R189, R193). -/
theorem XoffEdges.of_xoffLevel
    (level : x.xoffAsserted = xoffLevel c q.xoffAsserted (c.fifoDepth - x.rxFifo.length)) : XoffEdges c q x := by
  obtain ⟨rise, fall⟩ := xoffLevel_edges c q.xoffAsserted (c.fifoDepth - x.rxFifo.length)
  exact ⟨fun off on => rise off (level ▸ on), fun on off => fall on (level ▸ off)⟩

/-- Clearing the FIFO frees the whole of it, which is at least the high threshold (00_scope.md R4). -/
theorem XoffEdges.of_cleared (hc : c.Wf) (rx : x.rxFifo = []) (off : x.xoffAsserted = false) : XoffEdges c q x := by
  obtain ⟨-, ⟨-, -, high_le⟩, -⟩ := hc
  refine ⟨fun _ on => ?_, fun _ _ => ?_⟩
  · rw [off] at on
    cases on
  · rw [rx, List.length_nil]
    omega

theorem Ticked.xoffEdges (hc : c.Wf) (h : Ticked c q x) : XoffEdges c q x := by
  obtain ⟨-, -, same⟩ | ⟨-, rx, off⟩ := h.flow
  · exact .of_eq same
  · exact .of_cleared hc rx off

end

theorem CorePort.xoffEdges {s : State} {p q : Port} {x : PortState} (h : CorePort s p q x) :
    XoffEdges s.prm (s.port q) x := by
  obtain ⟨-, same⟩ | ⟨-, rx, level⟩ := h.rx
  · exact .of_eq same
  · exact .of_xoffLevel (by rw [level, rx])

theorem xoffEdges_lineInject (s : State) (p : Port) (b : Byte) :
    XoffEdges s.prm (s.port p) ((lineInject s p b).port p) := by
  rw [port_lineInject]
  split
  · exact .of_eq rfl
  · split
    · exact .of_xoffLevel (by rw [List.length_append]; rfl)
    · exact .of_eq rfl

theorem transmit_port_xoffAsserted (s : State) (p r : Port) :
    ((transmit s p).port r).xoffAsserted = (s.port r).xoffAsserted := by
  rw [port_transmit]
  split
  next h => rw [h]
  next => rfl

/-- Every event moves the hub's own XOFF of a port at its thresholds only. -/
theorem PortEffect.xoffEdges {s : State} {i : Instr} {r : Port} {x : PortState} (hc : s.prm.Wf)
    (h : PortEffect s i r x) : XoffEdges s.prm (s.port r) x := by
  cases h with
  | parsers en event x restarted => exact (restarted.ticked s.prm).xoffEdges hc
  | reset p => exact ((portsTicked_portReset s p).2 r).xoffEdges hc
  | read => exact (corePort_moved (p := r) (d := none) (l := []) nofun r).xoffEdges
  | received b => exact xoffEdges_lineInject s r b
  | sent => exact .of_eq (transmit_port_xoffAsserted s r r)
  | looped p b =>
    obtain ⟨rise, fall⟩ := xoffEdges_lineInject (transmit s p) r b
    rw [transmit_port_xoffAsserted] at rise fall
    exact ⟨rise, fall⟩
  | ticked a event x ticked => exact ticked.xoffEdges hc
  | core p runs x moved => exact moved.xoffEdges
  | _ => exact .of_eq rfl

/-- Settles O31, by the edges of every effect on a port. -/
theorem ownXoffMovesOnlyAtItsThresholds : Obligations.OwnXoffMovesOnlyAtItsThresholds := by
  intro i s t p hc e
  obtain ⟨u, r, effect, rfl⟩ := exec_hasEffect e
  obtain ⟨rise, fall⟩ := (effect.portEffect p).xoffEdges hc
  exact ⟨rise, fall⟩

end Sys2Proof.Machine
end

section
/-!
PROOF. The recovery from a stuck XOFF (45_flowcontrol.md R190, R191): the four ports after it, and the tick that runs it.
-/

namespace Sys2Proof.Machine

/-! ## The recovery -/

theorem coreFrame_recovery (s : State) : CoreFrame s (recovery s) := by
  apply CoreFrame.of_mon_eq <;> simp

theorem sameFaults_recovery (s : State) : SameFaults s (recovery s) :=
  ⟨recovery_faultBitmap s, recovery_faultTime s⟩

/-- Outside the ports and the path the recovery restarts the poll only. -/
theorem recovery_rest (s : State) :
    ((recovery s).setPoll 0).withResult .none = { s with
      ports := (recovery s).ports, extOwner := (recovery s).extOwner, xoffPollCount := 0, result := .none } := by
  have rest := withResult_of_coreFrame (coreFrame_recovery s) (sameFaults_recovery s) .none
  rw [recovery_mon] at rest
  exact congrArg (State.setPoll · 0) rest

/-- The recovery clears the FIFOs and the XOFF flags of every port and resets its parser; of the rest of a port it writes
the timeout records only (45_flowcontrol.md R191). -/
theorem port_recovery (s : State) (q : Port) :
    (recovery s).port q = { s.port q with
      txFifo := [], rxFifo := [], xoffAsserted := false, xoffDetected := false, sleepReq := false
      rxp := (s.rxp q).atBoundary
      tmo := ((recovery s).port q).tmo } := by
  simp only [recovery, allPorts, List.foldl_cons, List.foldl_nil, port_recoverPort, port_portReset]
  cases q <;> simp [State.rxp, State.txFifo, State.rxFifo, port_recoverPort, port_portReset]

section
variable {s : State} (framed : Framed s) (idle : ∀ p, (s.rxp p).phase = .boundary)
include framed idle

/-- With every parser at a boundary no frame holds External's path. -/
theorem Framed.extOwner_of_boundary : s.extOwner = none :=
  Option.eq_none_iff_forall_ne_some.mpr fun h owned => by
    simpa [Delivering, idle] using (framed.owner h).mp owned

/-- With every parser at a boundary no timer runs, and a timer that does not run is 0 (43_timeout.md R147). -/
theorem Framed.timer_of_boundary (p : Port) (d : Dir) : s.timer p d = 0 := by
  refine (framed.timer p d).1 ?_
  rw [← Bool.not_eq_true]
  cases d with
  | rx => rw [running_rx]; exact fun on => on.2 (idle p)
  | tx =>
    obtain rfl | ⟨h, rfl⟩ := ext_or_hostPort p
    · rw [running_tx_ext, framed.extOwner_of_boundary idle]; simp
    · rw [running_tx_host]; simp [Delivering, idle]

end

/-! ## The tick that recovers -/

theorem recoveryDue_afterSupervisor (s : State) (a : Ack) : RecoveryDue (afterSupervisor s a) ↔ RecoveryDue s := by
  have same : ∀ p, (afterSupervisor s a).wsendXoff p = s.wsendXoff p :=
    wsendXoff_of_keepsPorts (keepsPorts_afterSupervisor s a)
  simp only [RecoveryDue, same, supervise_prm, supervise_xoffPollCount]
  rfl

/-- The stuck-XOFF poll where the recovery is due (45_flowcontrol.md R190). -/
theorem xoffPoll_of_due {s : State} (due : RecoveryDue s) : xoffPoll s = (recovery s).setPoll 0 := by
  obtain ⟨blocked, limit⟩ := due
  rw [xoffPoll, if_pos ((allBlocked_iff s).mpr fun p _ => blocked p), if_pos limit]

/-- The state after the recovery in `TICK a` (60_exceptions.md R230). -/
abbrev afterRecovery (s : State) (a : Ack) : State := recovery (afterSupervisor s a)

theorem tickState_of_due {s : State} {a : Ack} (awake : (s.pg.tick s.prm a).pgState ≠ .idle) (due : RecoveryDue s) :
    tickState s a = (afterRecovery s a).setPoll 0 :=
  (if_neg awake : tickState s a = xoffPoll (afterSupervisor s a)).trans
    (xoffPoll_of_due ((recoveryDue_afterSupervisor s a).mpr due))

/-- Outside the ports and the path, a tick that recovers restarts the poll and leaves what the supervisor does. -/
theorem exec_tick_of_due {s : State} {a : Ack} (awake : (s.pg.tick s.prm a).pgState ≠ .idle) (due : RecoveryDue s) :
    exec (.tick a) s = .next { s with
      now := s.inc s.now, pg := s.pg.tick s.prm a
      ports := (afterRecovery s a).ports, extOwner := (afterRecovery s a).extOwner, xoffPollCount := 0
      faultBitmap := (afterSupervisor s a).faultBitmap, faultTime := (afterSupervisor s a).faultTime
      result := .none } := by
  rw [exec_tick, tickState_of_due awake due, recovery_rest]
  simp

/-- The supervisor may reset a parser, which the recovery does again. -/
theorem atBoundary_afterSupervisor {s : State} (framed : Framed s) (a : Ack) (p : Port) :
    ((afterSupervisor s a).rxp p).atBoundary = (s.rxp p).atBoundary := by
  have h := supervised_afterSupervisor a fun _ _ _ _ => framed
  by_cases cut : CutIn s 0 8 p
  · rw [h.cut p cut]; rfl
  · rw [h.kept p cut]

theorem port_afterRecovery {s : State} (framed : Framed s) (a : Ack) (p : Port) :
    (afterRecovery s a).port p = { s.port p with
      txFifo := [], rxFifo := [], xoffAsserted := false, xoffDetected := false, sleepReq := false
      rxp := (s.rxp p).atBoundary
      tmo := ((afterRecovery s a).port p).tmo } := by
  have port := port_recovery (afterSupervisor s a) p
  rw [atBoundary_afterSupervisor framed, keepsPorts_afterSupervisor s a p] at port
  exact port

theorem portsTicked_afterRecovery (s : State) (a : Ack) : PortsTicked s (afterRecovery s a) :=
  have gate : PortsTicked s (tickGate s a) := ⟨rfl, fun _ => .refl _ _⟩
  (gate.trans (portsTicked_supervise _)).trans (portsTicked_recovery _)

theorem framed_afterRecovery {s : State} (framed : Framed s) (a : Ack) : Framed (afterRecovery s a) :=
  have gate : Framed (tickGate s a) :=
    SameFraming.framed (s := s) ⟨rfl, rfl, rfl, fun _ => rfl, fun _ _ => rfl, fun _ _ => rfl⟩ framed
  framed_recovery (framed_supervise gate)

/-- Settles O32: the recovery leaves every parser at its boundary and keeps the framing invariant, so the path is free
and every timer 0. -/
theorem stuckXoffRunsTheRecovery : Obligations.StuckXoffRunsTheRecovery := by
  intro s a inv awake due
  have framed := ((frameInv_iff s).mp inv).1
  have port := port_afterRecovery framed a
  have recovered := framed_afterRecovery framed a
  have idle : ∀ p, ((afterRecovery s a).rxp p).phase = .boundary := fun p => by rw [State.rxp, port p]; rfl
  refine ⟨_, exec_tick_of_due awake due, by rw [recovered.extOwner_of_boundary idle], fun p => ⟨port p, fun d => ?_⟩⟩
  have record := ((portsTicked_afterRecovery s a).2 p).tmo d
  have stopped : (((afterRecovery s a).port p).tmo.get d).timer = 0 := recovered.timer_of_boundary idle p d
  rw [stopped] at record
  exact record

end Sys2Proof.Machine
end

section
/-!
SUPPORT. The hub without its monitor (46_monitor.md R206): every operation of the model does to it what it does to the hub,
said once for each operation. A report of the hub core leaves nothing of itself there.
-/

namespace Sys2Proof.Machine

/-! ## The state -/

/-- The hub with the monitor of a hub that has just started, which captures nothing (46_monitor.md R202). -/
def State.unwatched (s : State) : State := s.setMon .initial

@[simp] theorem State.unwatched_prm (s : State) : s.unwatched.prm = s.prm := rfl
@[simp] theorem State.unwatched_extOwner (s : State) : s.unwatched.extOwner = s.extOwner := rfl
@[simp] theorem State.unwatched_bypassMode (s : State) : s.unwatched.bypassMode = s.bypassMode := rfl
@[simp] theorem State.unwatched_pg (s : State) : s.unwatched.pg = s.pg := rfl
@[simp] theorem State.unwatched_xoffPollCount (s : State) : s.unwatched.xoffPollCount = s.xoffPollCount := rfl
@[simp] theorem State.unwatched_port (s : State) (p : Port) : s.unwatched.port p = s.port p := rfl
@[simp] theorem State.unwatched_txFifo (s : State) (p : Port) : s.unwatched.txFifo p = s.txFifo p := rfl
@[simp] theorem State.unwatched_rxFifo (s : State) (p : Port) : s.unwatched.rxFifo p = s.rxFifo p := rfl
@[simp] theorem State.unwatched_rxp (s : State) (p : Port) : s.unwatched.rxp p = s.rxp p := rfl
@[simp] theorem State.unwatched_tmo (s : State) (p : Port) (d : Dir) : s.unwatched.tmo p d = s.tmo p d := rfl
@[simp] theorem State.unwatched_timer (s : State) (p : Port) (d : Dir) : s.unwatched.timer p d = s.timer p d := rfl
@[simp] theorem State.unwatched_pgState (s : State) : s.unwatched.pgState = s.pgState := rfl
@[simp] theorem State.unwatched_opened (s : State) : s.unwatched.opened = s.opened := rfl
@[simp] theorem State.unwatched_avail (s : State) (f : List Byte) : s.unwatched.avail f = s.avail f := rfl
@[simp] theorem State.unwatched_running (s : State) (p : Port) (d : Dir) : s.unwatched.running p d = s.running p d := rfl
@[simp] theorem State.unwatched_allBlocked (s : State) : s.unwatched.allBlocked = s.allBlocked := rfl
@[simp] theorem State.unwatched_endsAtPayload (s : State) (p : Port) : s.unwatched.endsAtPayload p = s.endsAtPayload p := rfl
@[simp] theorem State.unwatched_txReady (s : State) (p : Port) : s.unwatched.txReady p = s.txReady p := rfl
@[simp] theorem State.unwatched_lineOutEnabled (s : State) (p : Port) :
    s.unwatched.lineOutEnabled p = s.lineOutEnabled p := rfl
@[simp] theorem State.unwatched_headerFits (s : State) (p : Port) : s.unwatched.headerFits p = s.headerFits p := rfl
@[simp] theorem State.unwatched_setMon (s : State) (m : Monitor) : (s.setMon m).unwatched = s.unwatched := rfl

/-- Two states that agree without their monitors are one state once they hold the same monitor. -/
theorem State.setMon_eq_of_unwatched {s u : State} (h : u.unwatched = s.unwatched) : u.setMon s.mon = s :=
  have restored : u.unwatched.setMon s.mon = s.unwatched.setMon s.mon := congrArg (State.setMon · s.mon) h
  restored

/-! ## The shared operations -/

@[simp] theorem setPg_unwatched (s : State) (g : PowerGate) : s.unwatched.setPg g = (s.setPg g).unwatched := rfl
@[simp] theorem setOwner_unwatched (s : State) (o : Option HostPort) : s.unwatched.setOwner o = (s.setOwner o).unwatched := rfl
@[simp] theorem setPort_unwatched (s : State) (p : Port) (q : PortState) :
    s.unwatched.setPort p q = (s.setPort p q).unwatched := rfl
@[simp] theorem setParser_unwatched (s : State) (p : Port) (r : Parser) :
    s.unwatched.setParser p r = (s.setParser p r).unwatched := rfl
@[simp] theorem setTimer_unwatched (s : State) (p : Port) (d : Dir) (n : Nat) :
    s.unwatched.setTimer p d n = (s.setTimer p d n).unwatched := rfl
@[simp] theorem setIrqMasked_unwatched (s : State) (b : Bool) :
    s.unwatched.setIrqMasked b = (s.setIrqMasked b).unwatched := rfl
@[simp] theorem setPoll_unwatched (s : State) (n : Nat) : s.unwatched.setPoll n = (s.setPoll n).unwatched := rfl
@[simp] theorem withResult_unwatched (s : State) (r : Result) : s.unwatched.withResult r = (s.withResult r).unwatched := rfl
@[simp] theorem incPacket_unwatched (s : State) (p : Port) (d : Dir) :
    s.unwatched.incPacket p d = (s.incPacket p d).unwatched := rfl
@[simp] theorem incTimeout_unwatched (s : State) (p : Port) (d : Dir) :
    s.unwatched.incTimeout p d = (s.incTimeout p d).unwatched := rfl
@[simp] theorem raiseFault_unwatched (s : State) (k : FaultKind) (p : Port) :
    raiseFault s.unwatched k p = (raiseFault s k p).unwatched := rfl
@[simp] theorem pushAllTx_unwatched (s : State) (p : Port) (l : List Byte) :
    s.unwatched.pushAllTx p l = (s.pushAllTx p l).unwatched := rfl
@[simp] theorem pushTx_unwatched (s : State) (p : Port) (b : Byte) : s.unwatched.pushTx p b = (s.pushTx p b).unwatched := rfl
@[simp] theorem consume_unwatched (s : State) (p : Port) : consume s.unwatched p = (consume s p).unwatched := rfl
@[simp] theorem clearPort_unwatched (s : State) (p : Port) : clearPort s.unwatched p = (clearPort s p).unwatched := rfl
@[simp] theorem setSleepReq_unwatched (s : State) (p : Port) (b : Bool) :
    setSleepReq s.unwatched p b = (setSleepReq s p b).unwatched := rfl
@[simp] theorem fcUpdate_unwatched (s : State) (p : Port) : fcUpdate s.unwatched p = (fcUpdate s p).unwatched := rfl
@[simp] theorem storeRx_unwatched (s : State) (p : Port) (b : Byte) :
    storeRx s.unwatched p b = (storeRx s p b).unwatched := rfl
@[simp] theorem markOverrun_unwatched (s : State) (p : Port) : markOverrun s.unwatched p = (markOverrun s p).unwatched := rfl
@[simp] theorem transmit_unwatched (s : State) (p : Port) : transmit s.unwatched p = (transmit s p).unwatched := rfl
@[simp] theorem tickGate_unwatched (s : State) (a : Ack) : tickGate s.unwatched a = (tickGate s a).unwatched := rfl

@[simp] theorem progress_unwatched (s : State) (p : Port) (d : Option Port) :
    progress s.unwatched p d = (progress s p d).unwatched := by
  cases d <;> rfl

@[simp] theorem lineInject_unwatched (s : State) (p : Port) (b : Byte) :
    lineInject s.unwatched p b = (lineInject s p b).unwatched := by
  unfold lineInject
  by_cases idle : s.pgState = .idle
  · simp [idle]
  · by_cases room : 1 ≤ s.avail (s.rxFifo p) <;> simp [idle, room]

@[simp] theorem wireByte_unwatched (s : State) (p : Port) (b : Byte) :
    wireByte s.unwatched p b = (wireByte s p b).unwatched := by
  simp only [wireByte, State.unwatched_port, lineInject_unwatched]
  cases (s.port p).loop <;> rfl

@[simp] theorem releasePath_unwatched (s : State) (p : Port) :
    releasePath s.unwatched p = (releasePath s p).unwatched := by
  unfold releasePath
  cases asHost p with
  | none => by_cases held : (s.rxp p).phase = .payload ∨ (s.rxp p).phase = .crc <;> simp [held]
  | some h => by_cases owns : s.extOwner = some h <;> simp [owns]

@[simp] theorem parserReset_unwatched (s : State) (p : Port) : parserReset s.unwatched p = (parserReset s p).unwatched := by
  simp [parserReset]

@[simp] theorem portReset_unwatched (s : State) (p : Port) : portReset s.unwatched p = (portReset s p).unwatched := by
  simp [portReset]

/-- Dropping the monitor commutes with a fold of operations with which it commutes. -/
theorem foldl_unwatched {α : Type} {f : State → α → State} (h : ∀ s a, f s.unwatched a = (f s a).unwatched)
    (s : State) (l : List α) : l.foldl f s.unwatched = (l.foldl f s).unwatched :=
  List.foldl_hom State.unwatched h

/-! ## A tick -/

@[simp] theorem resync_unwatched (s : State) (p : Port) (d : Dir) : resync s.unwatched p d = (resync s p d).unwatched := by
  cases d with
  | rx => exact parserReset_unwatched s p
  | tx =>
    cases p with
    | ext =>
      simp only [resync, State.unwatched_extOwner, parserReset_unwatched]
      cases s.extOwner <;> rfl
    | h0 | h1 | h2 => exact parserReset_unwatched s .ext

@[simp] theorem expire_unwatched (s : State) (p : Port) (d : Dir) : expire s.unwatched p d = (expire s p d).unwatched := by
  simp [expire, apply_ite State.unwatched]

@[simp] theorem superviseOne_unwatched (s : State) (p : Port) (d : Dir) :
    superviseOne s.unwatched p d = (superviseOne s p d).unwatched := by
  simp [superviseOne, apply_ite State.unwatched]

@[simp] theorem supervise_unwatched (s : State) : supervise s.unwatched = (supervise s).unwatched :=
  foldl_unwatched (fun s p => by simp [supervisePort]) s allPorts

@[simp] theorem recovery_unwatched (s : State) : recovery s.unwatched = (recovery s).unwatched :=
  foldl_unwatched (fun s p => by simp [recoverPort]) s allPorts

@[simp] theorem xoffPoll_unwatched (s : State) : xoffPoll s.unwatched = (xoffPoll s).unwatched := by
  simp [xoffPoll, apply_ite State.unwatched]

@[simp] theorem tickState_unwatched (s : State) (a : Ack) : tickState s.unwatched a = (tickState s a).unwatched := by
  simp [tickState, apply_ite State.unwatched]

/-! ## The reports of the hub core -/

@[simp] theorem State.unwatched_tap (s : State) (d : Dir) (b : Byte) (first : Bool) :
    (tap s d b first).unwatched = s.unwatched := by
  rw [tap_eq, State.unwatched_setMon]

@[simp] theorem tap_unwatched (s : State) (d : Dir) (b : Byte) (first : Bool) : tap s.unwatched d b first = s.unwatched := rfl

@[simp] theorem State.unwatched_tapRest (s : State) (d : Dir) (l : List Byte) : (tapRest s d l).unwatched = s.unwatched := by
  rw [tapRest_eq, State.unwatched_setMon]

@[simp] theorem tapRest_unwatched (s : State) (d : Dir) (l : List Byte) : tapRest s.unwatched d l = s.unwatched := by
  rw [tapRest_eq]; rfl

@[simp] theorem State.unwatched_endEvent (s : State) (d : Dir) (r : PktInfo) (crc : Option Word16) :
    (endEvent s d r crc).unwatched = s.unwatched := by
  rw [endEvent_eq, State.unwatched_setMon]

@[simp] theorem endEvent_unwatched (s : State) (d : Dir) (r : PktInfo) (crc : Option Word16) :
    endEvent s.unwatched d r crc = s.unwatched := rfl

@[simp] theorem State.unwatched_headerTaps (s : State) (p : Port) (b : Byte) (l : List Byte) :
    (headerTaps s p b l).unwatched = s.unwatched := by
  rw [headerTaps_eq, State.unwatched_setMon]

@[simp] theorem headerTaps_unwatched (s : State) (p : Port) (b : Byte) (l : List Byte) :
    headerTaps s.unwatched p b l = s.unwatched := by
  rw [headerTaps_eq]; rfl

@[simp] theorem State.unwatched_payloadTap (s : State) (p : Port) (b : Byte) :
    (payloadTap s p b).unwatched = s.unwatched := by
  cases p <;> exact State.unwatched_tap ..

@[simp] theorem payloadTap_unwatched (s : State) (p : Port) (b : Byte) : payloadTap s.unwatched p b = s.unwatched := by
  cases p <;> rfl

@[simp] theorem State.unwatched_endUncheckedFrame (s : State) (p d : Port) (n : Word16) :
    (endUncheckedFrame s p d n).unwatched = s.unwatched := by
  unfold endUncheckedFrame
  split <;> simp

@[simp] theorem endUncheckedFrame_unwatched (s : State) (p d : Port) (n : Word16) :
    endUncheckedFrame s.unwatched p d n = s.unwatched := by
  unfold endUncheckedFrame
  split <;> simp

/-! ## The parts of the hub core -/

@[simp] theorem frameStart_unwatched (s : State) (p : Port) (b : Byte) (sh : Shape) (d : Port) :
    frameStart s.unwatched p b sh d = (frameStart s p b sh d).unwatched := by
  simp [frameStart]

@[simp] theorem completeFrame_unwatched (s : State) (p : Port) :
    completeFrame s.unwatched p = (completeFrame s p).unwatched := by
  cases h : asHost p <;> simp [completeFrame, h]

@[simp] theorem setPhase_unwatched (s : State) (p : Port) (ph : Phase) :
    setPhase s.unwatched p ph = (setPhase s p ph).unwatched := rfl

@[simp] theorem afterPayload_unwatched (s : State) (p : Port) :
    afterPayload s.unwatched p = (afterPayload s p).unwatched := by
  simp [afterPayload, apply_ite State.unwatched]

@[simp] theorem headerHold_unwatched (s : State) (p : Port) (b : Byte) :
    headerHold s.unwatched p b = (headerHold s p b).unwatched := by
  cases p <;> simp [headerHold]

@[simp] theorem headerForward_unwatched (s : State) (p : Port) (b : Byte) :
    headerForward s.unwatched p b = (headerForward s p b).unwatched := by
  by_cases toExt : (s.rxp p).dest = .ext <;> simp [headerForward, toExt]

@[simp] theorem payloadForward_unwatched (s : State) (p : Port) (b : Byte) :
    payloadForward s.unwatched p b = (payloadForward s p b).unwatched := by
  simp [payloadForward]

@[simp] theorem trailerTake_unwatched (s : State) (b : Byte) : trailerTake s.unwatched b = (trailerTake s b).unwatched := by
  simp [trailerTake]

@[simp] theorem crcFail_unwatched (s : State) (p : Port) : crcFail s.unwatched p = (crcFail s p).unwatched := rfl

/-- What follows a report of the hub core may be taken to follow the state before it. -/
@[simp] theorem headerLast_unwatched (s : State) (p : Port) (b : Byte) :
    headerLast s.unwatched p b = (headerLast s p b).unwatched := by
  have reported : ∀ l, (headerTaps (headerForward s p b) p b l).unwatched = (headerForward s p b).unwatched :=
    fun l => State.unwatched_headerTaps _ p b l
  simp only [headerLast, apply_ite State.unwatched, State.unwatched_endUncheckedFrame, ← afterPayload_unwatched,
    ← setPhase_unwatched, reported, ← headerForward_unwatched]
  simp

/-! ## The rules of the hub core -/

@[simp] theorem frameStartStep_unwatched (s : State) (p : Port) (b : Byte) (h : HostPort) (sh : Shape) :
    frameStartStep s.unwatched p b h sh = (frameStartStep s p b h sh).map State.unwatched := by
  cases p <;> simp [frameStartStep]

@[simp] theorem keepaliveStep_unwatched (s : State) (b : Byte) :
    keepaliveStep s.unwatched b = (keepaliveStep s b).map State.unwatched := by
  simp [keepaliveStep]

@[simp] theorem escapeStep_unwatched (s : State) (b : Byte) (h : HostPort) :
    escapeStep s.unwatched b h = (escapeStep s b h).map State.unwatched := by
  by_cases room : 1 ≤ s.avail (s.txFifo (hostPort h)) <;> simp [escapeStep, room]

@[simp] theorem undefinedExtStep_unwatched (s : State) (b : Byte) :
    undefinedExtStep s.unwatched b = (undefinedExtStep s b).map State.unwatched := by
  by_cases room : 1 ≤ s.avail (s.txFifo .h0) <;> simp [undefinedExtStep, room]

@[simp] theorem undefinedHostStep_unwatched (s : State) (h : HostPort) (b : Byte) :
    undefinedHostStep s.unwatched h b = (undefinedHostStep s h b).map State.unwatched := by
  by_cases free : s.extOwner = none ∧ 1 ≤ s.avail (s.txFifo .ext) <;> simp [undefinedHostStep, free]

@[simp] theorem boundaryStep_unwatched (s : State) (p : Port) (b : Byte) :
    boundaryStep s.unwatched p b = (boundaryStep s p b).map State.unwatched := by
  simp only [boundaryStep, State.unwatched_prm]
  cases classify s.prm.typeMap p b with
  | keepalive => exact keepaliveStep_unwatched s b
  | escape h => exact escapeStep_unwatched s b h
  | frameStart h sh => exact frameStartStep_unwatched s p b h sh
  | undefined =>
    cases asHost p with
    | none => exact undefinedExtStep_unwatched s b
    | some h => exact undefinedHostStep_unwatched s h b

@[simp] theorem headerStep_unwatched (s : State) (p : Port) (b : Byte) :
    headerStep s.unwatched p b = (headerStep s p b).map State.unwatched := by
  simp [headerStep, apply_ite (Option.map State.unwatched)]

@[simp] theorem payloadStep_unwatched (s : State) (p : Port) (b : Byte) :
    payloadStep s.unwatched p b = (payloadStep s p b).map State.unwatched := by
  have reported : (afterPayload (payloadTap (payloadForward s p b) p b) p).unwatched =
      (afterPayload (payloadForward s p b) p).unwatched := by
    rw [← afterPayload_unwatched, State.unwatched_payloadTap, afterPayload_unwatched]
  simp [payloadStep, apply_ite (Option.map State.unwatched), reported]

@[simp] theorem trailerStep_unwatched (s : State) (h : HostPort) :
    trailerStep s.unwatched h = (trailerStep s h).map State.unwatched := by
  simp [trailerStep, apply_ite (Option.map State.unwatched)]

@[simp] theorem trailerRxStep_unwatched (s : State) (b : Byte) :
    trailerRxStep s.unwatched b = (trailerRxStep s b).map State.unwatched := by
  simp only [trailerRxStep, State.unwatched_rxp, trailerTake_unwatched]
  obtain _ | ⟨t0, _ | ⟨t1, _ | ⟨t2, l⟩⟩⟩ := (s.rxp .ext).trailer ++ [b]
  case cons.cons.nil => by_cases accepted : crcOfTrailer t0 t1 = (s.rxp .ext).crc <;> simp [accepted]
  all_goals simp

@[simp] theorem passThrough_unwatched (s : State) (p q : Port) :
    passThrough s.unwatched p q = (passThrough s p q).map State.unwatched := by
  simp only [passThrough, State.unwatched_rxFifo]
  cases s.rxFifo p with
  | nil => rfl
  | cons b l => by_cases room : 1 ≤ s.avail (s.txFifo q) <;> simp [room]

@[simp] theorem bypassStep_unwatched (s : State) (p : Port) :
    bypassStep s.unwatched p = (bypassStep s p).map State.unwatched := by
  cases p <;> simp [bypassStep]

@[simp] theorem byteStep_unwatched (s : State) (p : Port) (b : Byte) :
    byteStep s.unwatched p b = (byteStep s p b).map State.unwatched := by
  simp only [byteStep, State.unwatched_rxp]
  cases (s.rxp p).phase with
  | boundary => exact boundaryStep_unwatched s p b
  | header => exact headerStep_unwatched s p b
  | payload => exact payloadStep_unwatched s p b
  | crc => exact trailerRxStep_unwatched s b

@[simp] theorem framedStep_unwatched (s : State) (p : Port) :
    framedStep s.unwatched p = (framedStep s p).map State.unwatched := by
  simp only [framedStep, State.unwatched_rxp, State.unwatched_rxFifo]
  split
  next h _ _ => exact trailerStep_unwatched s h
  next =>
    cases s.rxFifo p with
    | nil => rfl
    | cons b l => exact byteStep_unwatched s p b

@[simp] theorem coreStep_unwatched (s : State) (p : Port) :
    coreStep s.unwatched p = (coreStep s p).map State.unwatched := by
  simp [coreStep, apply_ite (Option.map State.unwatched)]

/-! ## Events -/

/-- The outcome of an event with the monitor dropped from the next state. -/
def unwatchedOutcome : Host.Outcome State Fault Refusal → Host.Outcome State Fault Refusal
  | .next t => .next t.unwatched
  | .fault r => .fault r
  | .refused r => .refused r

theorem eq_next_of_unwatchedOutcome {o : Host.Outcome State Fault Refusal} {t : State}
    (h : unwatchedOutcome o = .next t.unwatched) : ∃ u, o = .next u ∧ u.unwatched = t.unwatched := by
  cases o with
  | next u => exact ⟨u, rfl, Host.Outcome.next.inj h⟩
  | fault r => cases h
  | refused r => cases h

@[simp] theorem unwatchedOutcome_next (s : State) : unwatchedOutcome (.next s) = .next s.unwatched := rfl

theorem unwatchedOutcome_unwatchedOutcome (o : Host.Outcome State Fault Refusal) :
    unwatchedOutcome (unwatchedOutcome o) = unwatchedOutcome o := by
  cases o <;> rfl

theorem replyStep_unwatched (s : State) (t : Option State) :
    replyStep s.unwatched (t.map State.unwatched) = unwatchedOutcome (replyStep s t) := by
  cases t <;> rfl

theorem firstByteEvent_unwatched {s : State} {t u : Option State} (step : u = t.map State.unwatched) (p : Port) (b : Byte)
    (c : FirstByteClass) : firstByteEvent s.unwatched p b c u = unwatchedOutcome (firstByteEvent s p b c t) := by
  have enabling : s.unwatched.atBoundaryWith p b = s.atBoundaryWith p b := rfl
  rw [step, firstByteEvent, enabling, replyStep_unwatched, firstByteEvent, apply_ite unwatchedOutcome]
  rfl

theorem typeEvent_unwatched (s : State) (src : FrameSource) (b : Byte) (h : HostPort) (sh : Shape) :
    typeEvent s.unwatched src b h sh = unwatchedOutcome (typeEvent s src b h sh) :=
  firstByteEvent_unwatched (frameStartStep_unwatched s _ b h sh) _ b _

theorem execOpen_unwatched (s : State) : execOpen s.unwatched = unwatchedOutcome (execOpen s) := by
  cases opened : s.opened <;> simp [execOpen, opened]

theorem execClose_unwatched (s : State) : execClose s.unwatched = unwatchedOutcome (execClose s) := by
  cases opened : s.opened <;> simp [execClose, opened]

theorem execSetTrx_unwatched (h : HostPort) (d : DirField) (s : State) :
    execSetTrx h d s.unwatched = unwatchedOutcome (execSetTrx h d s) := by
  by_cases undirected : d = .none
  · simp [execSetTrx, undirected]
  · cases opened : s.opened <;> simp [execSetTrx, undirected, opened]

theorem execClearTrx_unwatched (h : HostPort) (d : DirField) (s : State) :
    execClearTrx h d s.unwatched = unwatchedOutcome (execClearTrx h d s) := by
  by_cases undirected : d = .none
  · simp [execClearTrx, undirected]
  · cases opened : s.opened <;> simp [execClearTrx, undirected, opened]

theorem execConfigLoopback_unwatched (p : Port) (d : DirField) (en : Bool) (s : State) :
    execConfigLoopback p d en s.unwatched = unwatchedOutcome (execConfigLoopback p d en s) := by
  unfold execConfigLoopback
  cases singleDir d <;> simp

theorem execSetBypass_unwatched (en : Bool) (s : State) :
    execSetBypass en s.unwatched = unwatchedOutcome (execSetBypass en s) := by
  have reset : allPorts.foldl parserReset s.unwatched = (allPorts.foldl parserReset s).unwatched :=
    foldl_unwatched parserReset_unwatched s allPorts
  unfold execSetBypass
  rw [reset]
  by_cases same : en = s.bypassMode
  · simp [same]
  · simp [same]; rfl

theorem execConfigBaud_unwatched (p : Port) (r : BitVec 3) (s : State) :
    execConfigBaud p r s.unwatched = unwatchedOutcome (execConfigBaud p r s) := by
  unfold execConfigBaud
  split_ifs <;> rfl

theorem execSetDma_unwatched (p : Port) (d : DirField) (en : Bool) (s : State) :
    execSetDma p d en s.unwatched = unwatchedOutcome (execSetDma p d en s) := by
  simp [execSetDma, apply_ite unwatchedOutcome]

theorem execConfigTimeout_unwatched (p : Port) (d : DirField) (en rs : Bool) (per : BitVec 14) (s : State) :
    execConfigTimeout p d en rs per s.unwatched = unwatchedOutcome (execConfigTimeout p d en rs per s) := by
  simp [execConfigTimeout, configDir_eq, apply_ite unwatchedOutcome]

theorem execWriteByte_unwatched (p : Port) (b : Byte) (s : State) :
    execWriteByte p b s.unwatched = unwatchedOutcome (execWriteByte p b s) := by
  cases ready : s.txReady p <;> simp [execWriteByte, ready]

theorem execReadByte_unwatched (p : Port) (s : State) :
    execReadByte p s.unwatched = unwatchedOutcome (execReadByte p s) := by
  simp only [execReadByte, State.unwatched_rxFifo]
  cases s.rxFifo p <;> simp

theorem execLineOut_unwatched (p : Port) (s : State) :
    execLineOut p s.unwatched = unwatchedOutcome (execLineOut p s) := by
  cases enabled : s.lineOutEnabled p <;> simp [execLineOut, enabled]

end Sys2Proof.Machine
end

section
/-!
PROOF. The monitor is only watched (46_monitor.md R206): every event but MON_READ gives the same next state and result
with the monitor and without it.
-/

namespace Sys2Proof.Machine

/-- Events that are no operation of the monitor's do to the hub without its monitor what they do to the hub. -/
theorem exec_unwatched {i : Instr} (enable : ∀ en, i ≠ .monEnable en) (config : ∀ k ro mi, i ≠ .monConfig k ro mi)
    (read : ∀ f sel k, i ≠ .monRead f sel k) (s : State) : exec i s.unwatched = unwatchedOutcome (exec i s) := by
  cases i with
  | openHub => exact execOpen_unwatched s
  | closeHub => exact execClose_unwatched s
  | setTrx h d => exact execSetTrx_unwatched h d s
  | clearTrx h d => exact execClearTrx_unwatched h d s
  | configLoopback p d en => exact execConfigLoopback_unwatched p d en s
  | setBypass en => exact execSetBypass_unwatched en s
  | configBaud p r => exact execConfigBaud_unwatched p r s
  | setDma p d en => exact execSetDma_unwatched p d en s
  | configTimeout p d en rs per => exact execConfigTimeout_unwatched p d en rs per s
  | resetPort p => exact congrArg (reply · .ok) (portReset_unwatched s p)
  | writeByte p b => exact execWriteByte_unwatched p b s
  | readByte p => exact execReadByte_unwatched p s
  | monEnable en => exact absurd rfl (enable en)
  | monConfig k ro mi => exact absurd rfl (config k ro mi)
  | monRead f sel k => exact absurd rfl (read f sel k)
  | lineIn p b => exact congrArg (reply · .none) (lineInject_unwatched s p b)
  | lineOut p => exact execLineOut_unwatched p s
  | tick a => exact congrArg (reply · .none) (tickState_unwatched s a)
  | isReady | isTxReady | isRxReady | irqMask | irqUnmask | readFaults | clearFaults | lineXoff | lineXon
  | restoreFault => rfl
  | coreRx p => exact (congrArg (replyStep _) (coreStep_unwatched s p)).trans (replyStep_unwatched s _)
  | keepalive => exact firstByteEvent_unwatched (keepaliveStep_unwatched s _) _ _ _
  | escH0 | escH1 | escH2 => exact firstByteEvent_unwatched (escapeStep_unwatched s _ _) _ _ _
  | typeH0B src b | typeH0A src b | typeH0C src b | typeH1B src b | typeH1A src b | typeH1C src b | typeH2B src b
  | typeH2A src b | typeH2C src b => exact typeEvent_unwatched s src b _ _
  | undefinedFromExt b => exact firstByteEvent_unwatched (undefinedExtStep_unwatched s b) _ _ _
  | undefinedFromHost h b => exact firstByteEvent_unwatched (undefinedHostStep_unwatched s h b) _ _ _

/-- MON_ENABLE writes the monitor only and always returns `Ok` (46_monitor.md R200). -/
theorem unwatchedOutcome_monEnable (en : Bool) (s : State) :
    unwatchedOutcome (exec (.monEnable en) s) = .next (s.withResult .ok).unwatched := by
  change unwatchedOutcome (execMonEnable en s) = _
  unfold execMonEnable
  split_ifs <;> rfl

/-- MON_CONFIG writes the monitor only, and what it returns is a matter of its mode operand (46_monitor.md R201). -/
theorem unwatchedOutcome_monConfig (k : BitVec 2) (rolling mirror : Bool) (s : State) :
    unwatchedOutcome (exec (.monConfig k rolling mirror) s) =
      .next (s.withResult (if (monModeOf k).isSome then .ok else .err .invalidArg)).unwatched := by
  change unwatchedOutcome (execMonConfig k rolling mirror s) = _
  unfold execMonConfig
  cases monModeOf k <;> rfl

/-- Every event but MON_READ gives the same next state and the same result with the monitor and without it, up to the
monitor. -/
theorem unwatchedOutcome_exec_unwatched {i : Instr} (read : ∀ f sel k, i ≠ .monRead f sel k) (s : State) :
    unwatchedOutcome (exec i s.unwatched) = unwatchedOutcome (exec i s) := by
  cases i with
  | monEnable en => rw [unwatchedOutcome_monEnable, unwatchedOutcome_monEnable]; rfl
  | monConfig k rolling mirror => rw [unwatchedOutcome_monConfig, unwatchedOutcome_monConfig]; rfl
  | _ =>
    rw [exec_unwatched (by simp) (by simp) read, unwatchedOutcome_unwatchedOutcome]

/-- Settles O60: two states that differ in their monitors are one state without them. -/
theorem monitorNeverInterferes : Obligations.MonitorNeverInterferes := by
  intro i s t m read step
  have same : unwatchedOutcome (exec i (s.setMon m)) = .next t.unwatched := by
    calc unwatchedOutcome (exec i (s.setMon m))
        = unwatchedOutcome (exec i s.unwatched) := (unwatchedOutcome_exec_unwatched read (s.setMon m)).symm
      _ = unwatchedOutcome (exec i s) := unwatchedOutcome_exec_unwatched read s
      _ = .next t.unwatched := by rw [step, unwatchedOutcome_next]
  obtain ⟨u, run, agree⟩ := eq_next_of_unwatchedOutcome same
  exact ⟨u, run, State.setMon_eq_of_unwatched agree⟩

end Sys2Proof.Machine
end

section
/-!
PROOF. The monitor's own operations (46_monitor.md R200 to R208): its control events, MON_READ, and the capture functions
in each mode.
-/

namespace Sys2Proof.Machine

/-! ## Control (46_monitor.md R200, R201, R208) -/

/-- The mode operand of MON_CONFIG, code by code. -/
theorem monModeOf_of_code {k : BitVec 2} {md : MonMode}
    (code : (k = 0 ∧ md = .packetInfo) ∨ (k = 1 ∧ md = .checkData) ∨ (k = 2 ∧ md = .crcResult)) :
    monModeOf k = some md := by
  obtain ⟨rfl, rfl⟩ | ⟨rfl, rfl⟩ | ⟨rfl, rfl⟩ := code <;> rfl

theorem exec_monConfig {k : BitVec 2} {md : MonMode} (code : monModeOf k = some md) (s : State) (rolling mirror : Bool) :
    exec (.monConfig k rolling mirror) s = .next { s with
      mon := { s.mon with
        monMode := md, monRolling := rolling, monMirror := mirror
        dirs := if md = s.mon.monMode then s.mon.dirs else .all .cleared }
      result := .ok } := by
  change execMonConfig k rolling mirror s = _
  by_cases same : md = s.mon.monMode
  · simp only [execMonConfig, code, same, ne_eq, not_true_eq_false, if_false, if_true]
    rfl
  · simp only [execMonConfig, code, same, ne_eq, not_false_eq_true, if_false, if_true]
    rfl

theorem exec_monEnable_off {s : State} (off : s.mon.monEnabled = false) :
    exec (.monEnable true) s = .next { s with
      mon := { s.mon with monEnabled := true, dirs := .all .cleared }, result := .ok } := by
  change execMonEnable true s = _
  rw [execMonEnable, off]
  rfl

theorem exec_monEnable_on {s : State} (on : s.mon.monEnabled = true) :
    exec (.monEnable true) s = .next { s with result := .ok } := by
  change execMonEnable true s = _
  rw [execMonEnable, on]
  rfl

/-- Settles O57: each event in the cases of its rule, and the slots of the cleared buffers. -/
theorem monitorControl : Obligations.MonitorControl :=
  ⟨fun _ => ⟨exec_monEnable_off, exec_monEnable_on, rfl⟩,
    fun s _ _ rolling mirror code => exec_monConfig (monModeOf_of_code code) s rolling mirror,
    fun _ _ _ => rfl,
    fun i => Vector.getElem_replicate i.isLt, fun i => Vector.getElem_replicate i.isLt,
    fun i => Vector.getElem_replicate i.isLt, rfl, rfl, rfl, rfl, rfl⟩

/-! ## Reading (46_monitor.md R207) -/

/-- The fields of the word do not overlap: length below bit 16, escape at it, origin above. -/
theorem PktInfo.word_toNat (r : PktInfo) :
    r.word.toNat = r.length.toNat + 2 ^ 16 * (if r.escape then 1 else 0) + 2 ^ 17 * r.origin.toNat := by
  have length := r.length.isLt
  have origin := r.origin.isLt
  cases h : r.escape <;> simp [PktInfo.word, bitValue, h] <;> omega

/-- MON_READ of one direction is what `monValue` finds there. -/
theorem exec_monRead {f : DirField} {d : Dir} (single : singleDir f = some d) (s : State) (sel : Bool) (i : BitVec 4) :
    exec (.monRead f sel i) s = .next { s with
      result := (monValue s.mon.monMode (s.mon.dirs.get d) sel i).elim (.err .invalidArg) .okValue } := by
  change execMonRead f sel i s = _
  simp only [execMonRead, single]
  cases monValue s.mon.monMode (s.mon.dirs.get d) sel i <;> rfl

/-- A buffer of the monitor read at an index operand. -/
theorem getElem?_of_val_eq {α : Type} {n : Nat} (v : Vector α n) {k : Fin n} {i : BitVec 4} (h : k.val = i.toNat) :
    v[i.toNat]? = some v[k] := by
  rw [← h]
  exact Vector.getElem?_eq_getElem k.isLt

/-- Settles O58: the answer of `monValue` in each mode, in and out of the range of the mode's buffer. -/
theorem monReadAnswersTheSlot : Obligations.MonReadAnswersTheSlot := by
  intro s i sel
  refine ⟨fun f not_single => by obtain rfl | rfl := not_single <;> rfl, fun f d field => ?_⟩
  have single : singleDir f = some d := by obtain ⟨rfl, rfl⟩ | ⟨rfl, rfl⟩ := field <;> rfl
  simp only [exec_monRead single]
  refine ⟨fun index => ?_, fun mode => ⟨?_, fun k slot => ⟨_, ?_, PktInfo.word_toNat _⟩, fun out => ?_⟩,
    fun mode => ⟨?_, fun k slot => ?_⟩, fun mode => ⟨?_, fun k slot => ?_, fun out => ?_⟩⟩
  · simp only [monValue, if_true, if_pos index]
    rfl
  all_goals rw [mode]
  · rfl
  · simp [monValue, getElem?_of_val_eq _ slot]
  · simp [monValue, Vector.getElem?_eq_none (Nat.succ_le_of_lt out)]
  · rfl
  · simp [monValue, getElem?_of_val_eq _ slot]
  · rfl
  · simp [monValue, getElem?_of_val_eq _ slot]
  · simp [monValue, Vector.getElem?_eq_none (Nat.succ_le_of_lt out)]

/-! ## Capture (46_monitor.md R203 to R205) -/

/-- Only the check-data mode captures bytes. -/
theorem Monitor.tap_of_ne {m : Monitor} (mode : m.monMode ≠ .checkData) (d : Dir) (b : Byte) (first : Bool) :
    m.tap d b first = m := by
  unfold Monitor.tap
  split
  · rfl
  · rfl
  next h => exact absurd h mode

theorem Monitor.tap_checkData {m : Monitor} (mode : m.monMode = .checkData) (d : Dir) (b : Byte) (first : Bool) :
    m.tap d b first =
      m.setDir d ((if first then (m.dirs.get d).startEvent m.monRolling else m.dirs.get d).capture b) := by
  simp only [Monitor.tap, mode]

theorem Monitor.endEvent_checkData {m : Monitor} (mode : m.monMode = .checkData) (d : Dir) (r : PktInfo)
    (crc : Option Word16) : m.endEvent d r crc = m := by
  simp only [Monitor.endEvent, mode]

theorem Monitor.endEvent_packetInfo {m : Monitor} (mode : m.monMode = .packetInfo) (d : Dir) (r : PktInfo)
    (crc : Option Word16) : m.endEvent d r crc = m.setDir d ((m.dirs.get d).record r) := by
  simp only [Monitor.endEvent, mode]

theorem Monitor.endEvent_crcResult {m : Monitor} (mode : m.monMode = .crcResult) (d : Dir) (r : PktInfo)
    (crc : Option Word16) : m.endEvent d r crc = crc.elim m (m.storeCrc d) := by
  simp only [Monitor.endEvent, mode]
  cases crc <;> rfl

/-- The start of an event clears the byte count and, in "top" mode, the write pointer. -/
theorem MonDir.startEvent_if (x : MonDir) (first rolling : Bool) :
    (if first then x.startEvent rolling else x) = { x with
      monCnt := if first then 0 else x.monCnt
      chkWr := if first = true ∧ rolling = false then 0 else x.chkWr } := by
  cases first <;> cases rolling <;> rfl

/-- A CRC goes into its own direction's buffer, and a mirrored RX one into the TX buffer too. -/
theorem Monitor.storeCrc_eq (m : Monitor) (d : Dir) (c : Word16) :
    m.storeCrc d c = { m with
      dirs :=
        { tx := if d = .tx ∨ m.monMirror = true then m.dirs.tx.storeCrc c else m.dirs.tx
          rx := if d = .rx then m.dirs.rx.storeCrc c else m.dirs.rx } } := by
  cases d with
  | tx => simp [Monitor.storeCrc, Monitor.setDir]
  | rx => cases h : m.monMirror <;> simp [Monitor.storeCrc, Monitor.setDir, h]

/-- Settles O59: the two capture functions in each mode. -/
theorem monitorCapturesByMode : Obligations.MonitorCapturesByMode := by
  intro m d b first r crc
  refine ⟨fun mode => Monitor.tap_of_ne mode d b first,
    fun mode => ⟨Monitor.endEvent_checkData mode d r crc, _, _, rfl, rfl, ?_⟩,
    fun mode => Monitor.endEvent_packetInfo mode d r crc, fun mode => ⟨?_, ?_⟩⟩
  · rw [Monitor.tap_checkData mode, MonDir.startEvent_if]
    rfl
  · rintro rfl
    exact Monitor.endEvent_crcResult mode d r none
  · rintro c rfl
    exact (Monitor.endEvent_crcResult mode d r (some c)).trans (m.storeCrc_eq d c)

end Sys2Proof.Machine
end

section
/-!
PROOF. Faults, the interrupt line and hub init (60_exceptions.md R215 to R227, 70_reset_and_hazards.md R245): that every
event answers, what an event does to the level of the line, the operations on the fault bitmap, and the state after hub
init.
-/

namespace Sys2Proof.Machine

/-! ## Every event answers -/

/-- The outcome is a next state: neither a fault nor a refusal. -/
def Answers (o : Host.Outcome State Fault Refusal) : Prop := ∃ t, o = .next t

theorem answers_reply (s : State) (r : Result) : Answers (reply s r) := ⟨_, reply_eq s r⟩

theorem answers_fail (s : State) (c : ErrCode) : Answers (fail s c) := answers_reply s (.err c)

theorem answers_replyStep (s : State) (t : Option State) : Answers (replyStep s t) := by
  cases t with
  | none => exact ⟨_, replyStep_none s⟩
  | some t => exact ⟨_, replyStep_some s t⟩

theorem answers_ite {c : Prop} [Decidable c] {o o' : Host.Outcome State Fault Refusal} (h : Answers o)
    (h' : Answers o') : Answers (if c then o else o') := by
  split
  · exact h
  · exact h'

/-- A first-byte event does not happen or is a step of the hub core, and answers in both cases. -/
theorem answers_firstByte {i : Instr} {p : Port} {b : Byte} (h : encode i = .firstByte p b) (s : State) :
    Answers (exec i s) := by
  obtain skipped | ⟨-, -, stepped⟩ := exec_firstByte h s
  · exact ⟨_, skipped⟩
  · rw [stepped]
    exact answers_replyStep s _

theorem answers_configBaud (p : Port) (r : BitVec 3) (s : State) : Answers (execConfigBaud p r s) := by
  unfold execConfigBaud
  split
  · exact answers_reply _ _
  · exact answers_ite (answers_fail _ _) (answers_fail _ _)

theorem answers_configLoopback (p : Port) (d : DirField) (en : Bool) (s : State) :
    Answers (execConfigLoopback p d en s) := by
  unfold execConfigLoopback
  split
  · exact answers_fail _ _
  · exact answers_reply _ _

theorem answers_readByte (p : Port) (s : State) : Answers (execReadByte p s) := by
  unfold execReadByte
  split <;> exact answers_reply _ _

theorem answers_monConfig (k : BitVec 2) (rolling mirror : Bool) (s : State) :
    Answers (execMonConfig k rolling mirror s) := by
  unfold execMonConfig
  split
  · exact answers_fail _ _
  · exact answers_reply _ _

theorem answers_monRead (d : DirField) (sel : Bool) (i : BitVec 4) (s : State) : Answers (execMonRead d sel i s) := by
  unfold execMonRead
  split
  · exact answers_fail _ _
  · split
    · exact answers_fail _ _
    · exact answers_reply _ _

theorem answers_exec (i : Instr) (s : State) : Answers (exec i s) := by
  cases i with
  | setTrx h d => exact answers_ite (answers_fail _ _) (answers_ite (answers_fail _ _) (answers_reply _ _))
  | clearTrx h d => exact answers_ite (answers_fail _ _) (answers_ite (answers_fail _ _) (answers_reply _ _))
  | configLoopback p d en => exact answers_configLoopback p d en s
  | configBaud p r => exact answers_configBaud p r s
  | setDma p d en => exact answers_ite (answers_fail _ _) (answers_reply _ _)
  | configTimeout p d en rs per =>
    exact answers_ite (answers_fail _ _) (answers_ite (answers_fail _ _) (answers_reply _ _))
  | readByte p => exact answers_readByte p s
  | monConfig k rolling mirror => exact answers_monConfig k rolling mirror s
  | monRead d sel x => exact answers_monRead d sel x s
  | lineOut p => exact answers_ite (answers_reply _ _) (answers_reply _ _)
  | coreRx p => exact answers_replyStep s _
  | openHub | closeHub | isReady | setBypass | resetPort | writeByte | isTxReady | isRxReady | irqMask | irqUnmask
  | readFaults | clearFaults | monEnable | lineIn | lineXoff | lineXon | tick | restoreFault => exact answers_reply _ _
  | keepalive | escH0 | escH1 | escH2 | typeH0B | typeH0A | typeH0C | typeH1B | typeH1A | typeH1C | typeH2B | typeH2A
  | typeH2C | undefinedFromExt | undefinedFromHost => exact answers_firstByte rfl s

/-- Settles O14, over the constructors: an event replies, fails, or is a step of the hub core, enabled or not. -/
theorem noEventStopsTheHub : Obligations.NoEventStopsTheHub := answers_exec

/-! ## The bits of the bitmap -/

/-- Every bit of the bitmap is the code of a fault (60_exceptions.md R215). -/
theorem exists_faultBit_eq {n : Nat} (h : n < 16) : ∃ k p, n = faultBit k p := by
  have kind : ∀ m < 4, ∃ k, m = faultKindNum k := fun m hm => by
    interval_cases m
    exacts [⟨.crcError, rfl⟩, ⟨.packetTypeError, rfl⟩, ⟨.timeoutError, rfl⟩, ⟨.restoreError, rfl⟩]
  have port : ∀ m < 4, ∃ p, m = portNum p := fun m hm => by
    interval_cases m
    exacts [⟨.h0, rfl⟩, ⟨.h1, rfl⟩, ⟨.h2, rfl⟩, ⟨.ext, rfl⟩]
  obtain ⟨k, hk⟩ := kind (n / 4) (by omega)
  obtain ⟨p, hp⟩ := port (n % 4) (by omega)
  exact ⟨k, p, by rw [faultBit, ← hk, ← hp]; omega⟩

/-- A bitmap that is not zero holds a fault. -/
theorem exists_fault_of_ne_zero {v : Word16} (h : v ≠ 0) : ∃ k p, v.getLsbD (faultBit k p) = true := by
  by_contra no_fault
  refine h (BitVec.eq_of_getLsbD_eq fun n hn => ?_)
  obtain ⟨k, p, rfl⟩ := exists_faultBit_eq hn
  have off : v.getLsbD (faultBit k p) = false := Bool.eq_false_of_not_eq_true fun on => no_fault ⟨k, p, on⟩
  exact off.trans BitVec.getLsbD_zero.symm

/-- Raising a fault sets its bit and no other, whatever bit is read (60_exceptions.md R219). -/
theorem raiseFault_getLsbD (s : State) (k : FaultKind) (p : Port) (n : Nat) :
    (raiseFault s k p).faultBitmap.getLsbD n = true ↔ s.faultBitmap.getLsbD n = true ∨ n = faultBit k p := by
  by_cases hn : n < 16
  · obtain ⟨k', q, rfl⟩ := exists_faultBit_eq hn
    rw [raiseFault_faultBitmap, getLsbD_raise, eq_comm (a := faultBit k' q), faultBit_inj]
  · have other : n ≠ faultBit k p := fun h => hn (h ▸ faultBit_lt k p)
    simp [BitVec.getLsbD_of_ge, Nat.le_of_not_lt hn, other]

theorem ackFaults_getLsbD (s : State) (m : Word16) (n : Nat) :
    (ackFaults s m).faultBitmap.getLsbD n = (s.faultBitmap.getLsbD n && !m.getLsbD n) := by
  rw [ackFaults_faultBitmap, BitVec.getLsbD_and, BitVec.getLsbD_not]
  by_cases hn : n < 16
  · simp [hn]
  · simp [BitVec.getLsbD_of_ge, Nat.le_of_not_lt hn]

/-! ## The interrupt line -/

/-- The level of the line (60_exceptions.md R223). -/
theorem State.irqLine_iff (s : State) :
    s.irqLine = true ↔ s.opened = true ∧ s.irqMasked = false ∧ s.faultBitmap ≠ 0 := by
  simp [State.irqLine, and_assoc]

/-- Only OPEN arms the line. -/
theorem EventEffect.opened_of_ne_openHub {s t : State} {i : Instr} (h : EventEffect s i t) (other : i ≠ .openHub)
    (on : t.opened = true) : s.opened = true := by
  by_contra off
  obtain rfl | rfl := h.opened_written fun same => off (same ▸ on)
  · exact other rfl
  · cases h with
    | nothing => exact off on
    | closeHub => cases on
    | core _ p _ runs step => exact off ((congrArg PowerGate.opened (coreFrame_of_coreStep step).pg).symm.trans on)

/-- Only OPEN and IRQ_UNMASK unmask the line. -/
theorem EventEffect.unmasked_of_ne {s t : State} {i : Instr} (h : EventEffect s i t) (not_open : i ≠ .openHub)
    (not_unmask : i ≠ .irqUnmask) (on : t.irqMasked = false) : s.irqMasked = false := by
  by_contra masked
  obtain rfl | rfl | rfl := h.irqMasked_written fun same => masked (same ▸ on)
  · exact not_open rfl
  · cases h with
    | nothing => exact masked on
    | irqMask => cases on
    | core _ p _ runs step => exact masked ((coreFrame_of_coreStep step).irqMasked ▸ on)
  · exact not_unmask rfl

/-- A bitmap that was zero and is not has been written at the time of the event (60_exceptions.md R219). -/
theorem EventEffect.faultTime_of_first_fault {s t : State} {i : Instr} (h : EventEffect s i t)
    (no_fault : s.faultBitmap = 0) (fault : t.faultBitmap ≠ 0) : t.faultTime = t.now := by
  obtain ⟨k, p, on⟩ := exists_fault_of_ne_zero fault
  exact (h.bit_raised (no_fault ▸ BitVec.getLsbD_zero) on).1

/-- A rise of the line by another event than OPEN and IRQ_UNMASK: the line was armed and unmasked, so the
bitmap was zero. -/
theorem EventEffect.irqLine_rise {s t : State} {i : Instr} (h : EventEffect s i t) (not_open : i ≠ .openHub)
    (not_unmask : i ≠ .irqUnmask) (low : ¬ s.irqLine = true) (high : t.irqLine = true) :
    s.opened = true ∧ s.irqMasked = false ∧ s.faultBitmap = 0 ∧ t.faultTime = t.now := by
  obtain ⟨armed, unmasked, fault⟩ := t.irqLine_iff.mp high
  have was_armed := h.opened_of_ne_openHub not_open armed
  have was_unmasked := h.unmasked_of_ne not_open not_unmask unmasked
  have no_fault : s.faultBitmap = 0 := by
    by_contra was_fault
    exact low (s.irqLine_iff.mpr ⟨was_armed, was_unmasked, was_fault⟩)
  exact ⟨was_armed, was_unmasked, no_fault, h.faultTime_of_first_fault no_fault fault⟩

/-- OPEN makes the line rise on a hub that was closed: on an open one it changes nothing the line reads. -/
theorem irqLine_rise_of_openHub {s t : State} (e : exec .openHub s = .next t) (low : ¬ s.irqLine = true)
    (high : t.irqLine = true) : s.opened = false ∧ s.faultBitmap ≠ 0 := by
  rw [exec_openHub] at e
  cases e
  obtain ⟨-, unmasked, fault⟩ := (State.irqLine_iff _).mp high
  refine ⟨Bool.eq_false_of_not_eq_true fun armed => ?_, fault⟩
  rw [if_pos armed] at unmasked
  exact low (s.irqLine_iff.mpr ⟨armed, unmasked, fault⟩)

theorem exec_irqUnmask (s : State) : exec .irqUnmask s = .next { s with irqMasked := false, result := .ok } := rfl

theorem irqLine_rise_of_irqUnmask {s t : State} (e : exec .irqUnmask s = .next t) (low : ¬ s.irqLine = true)
    (high : t.irqLine = true) : s.irqMasked = true ∧ s.faultBitmap ≠ 0 := by
  rw [exec_irqUnmask] at e
  cases e
  obtain ⟨armed, -, fault⟩ := (State.irqLine_iff _).mp high
  refine ⟨Bool.eq_true_of_not_eq_false fun unmasked => ?_, fault⟩
  exact low (s.irqLine_iff.mpr ⟨armed, unmasked, fault⟩)

/-- Settles O38: OPEN, IRQ_UNMASK, and every other event by what it can do. -/
theorem interruptLineLevelAndEdge : Obligations.InterruptLineLevelAndEdge := by
  refine ⟨State.irqLine_iff, fun i s t e low high => ?_⟩
  have was_low : ¬ s.irqLine = true := Bool.eq_false_iff.mp low
  by_cases is_open : i = .openHub
  · subst is_open
    exact .inl ⟨rfl, irqLine_rise_of_openHub e was_low high⟩
  · by_cases is_unmask : i = .irqUnmask
    · subst is_unmask
      exact .inr (.inl ⟨rfl, irqLine_rise_of_irqUnmask e was_low high⟩)
    · obtain ⟨u, r, h, rfl⟩ := exec_hasEffect e
      exact .inr (.inr (h.irqLine_rise is_open is_unmask was_low high))

/-! ## The operations on the bitmap -/

theorem exec_restoreFault (s : State) (p : Port) :
    exec (.restoreFault p) s = .next ((raiseFault s .restoreError p).withResult .none) := rfl

theorem exec_clearFaults (s : State) (m : Word16) :
    exec (.clearFaults m) s = .next ((ackFaults s m).withResult .ok) := rfl

/-- With a fault present and the hub open, IRQ_UNMASK drives the line high at once (60_exceptions.md R225). -/
theorem irqLine_of_irqUnmask {s t : State} (fault : s.faultBitmap ≠ 0) (armed : s.opened = true)
    (e : exec .irqUnmask s = .next t) : t.irqLine = true := by
  rw [exec_irqUnmask] at e
  cases e
  exact (State.irqLine_iff _).mpr ⟨armed, rfl, fault⟩

/-- Settles O36: each operation by its equation, the bitmap bit by bit. -/
theorem faultsAreRaisedReadAndCleared : Obligations.FaultsAreRaisedReadAndCleared := by
  intro s m p
  refine ⟨⟨_, exec_restoreFault s p, rfl, ?_⟩, rfl, exec_irqUnmask s,
    fun fault armed t => irqLine_of_irqUnmask fault armed, rfl, _, exec_clearFaults s m, rfl, ?_⟩
  · exact raiseFault_getLsbD s .restoreError p
  · exact ackFaults_getLsbD s m

/-! ## Hub init -/

/-- Every slot of a cleared buffer is zero. -/
theorem MonDir.cleared_slots :
    (∀ i : Fin 4, MonDir.cleared.pktInfo[i] = { origin := 0, escape := false, length := 0 }) ∧
    (∀ i : Fin 16, MonDir.cleared.chk[i] = 0) ∧ ∀ i : Fin 8, MonDir.cleared.crcRes[i] = 0 :=
  ⟨fun i => Vector.getElem_replicate i.isLt, fun i => Vector.getElem_replicate i.isLt,
    fun i => Vector.getElem_replicate i.isLt⟩

@[simp] theorem State.init_dirs (c : Params) (d : Dir) : (State.init c).mon.dirs.get d = MonDir.cleared :=
  PerDir.get_all _ d

/-- Settles O1: a port by `State.init_port`, its timeout records by `State.init_tmo`, the monitor's buffers by
`MonDir.cleared_slots`. -/
theorem resetLeavesTheStatedValues : Obligations.ResetLeavesTheStatedValues := by
  intro c
  refine ⟨fun p => ?_, State.init_tmo c, rfl, rfl, rfl, rfl, rfl, rfl, rfl, rfl, rfl, rfl, rfl, rfl, fun d => ?_, rfl,
    fun p d => ?_⟩
  · rw [State.init_txFifo, State.init_rxFifo, State.init_rxp, State.init_port]
    exact ⟨rfl, rfl, rfl, rfl, rfl, rfl, rfl, rfl, rfl, rfl, rfl, rfl, rfl, rfl, rfl, rfl, rfl, rfl⟩
  · rw [State.init_dirs]
    obtain ⟨info, chk, crc⟩ := MonDir.cleared_slots
    exact ⟨info, chk, crc, rfl, rfl, rfl, rfl, rfl⟩
  · rw [State.reset, State.init_tmo, State.init_port]
    simp [PortState.initial, TimeoutRec.initial, Params.default]

end Sys2Proof.Machine
end
